-- ==== Sys2Proof/Word.lean ====
section
/-!
DEFINITION. The word types of the MS-7: bytes, parameters of two and four bytes, and the numbers of slots and banks
(R69, R186). Quantities the part computes with are plain `Nat` and `Int` (00_scope.md 3.2).
-/

namespace Sys2Proof

/-- One byte of the command port or of the field line (R186). -/
abbrev Byte := BitVec 8

/-- A two-byte parameter or quantity (R186). -/
abbrev Half := BitVec 16

/-- A factory serial (5.2). -/
abbrev Serial := BitVec 32

/-- A slot of the station table; its station number is one more (R69). -/
abbrev Slot := Fin 64

/-- A ballast bank, numbered 0 to 7 (2.6). -/
abbrev BankNo := Fin 8

end Sys2Proof
end

