-- ==== Sys2Proof/Syntax.lean ====
section
/-!
DEFINITION. The commands of the MS-7: one constructor for each row of spec/opcode_table.json, with the row's operands.
Host commands carry their payload fields in the widths of 11.6.3, raw: enumerated bytes are judged by the meaning (R181).
-/

namespace Sys2Proof

/-- The two end switch inputs of the gate (R42). -/
inductive EndSwitch where
  | shut
  | full
  deriving DecidableEq, Repr

/-- The steps the part takes, in the order of spec/opcode_table.json. -/
inductive Instr where
  /-- R2. `sense` is what the bank port's strobe samples if this crossing completes a window (R16; DESIGN CHOICE, log 10). -/
  | risingCrossing (sense : BitVec 8)
  | silenceTimerExpiry
  | bankFailedOpen (bank : BankNo)
  | bankFailedStuck (bank : BankNo)
  | bankDisable (bank : Byte)
  | bankEnable (bank : Byte)
  | bankReturn (bank : Byte)
  | bankRatings (ratings : Vector Half 8)
  | bankCheck (bank : Byte)
  | checkWindowsExhausted
  | gainSet (kp ki : Half)
  | governorRead
  | gatePulse
  /-- R42. The named end switch input passes to `active`: an activation, or a release, which changes only the level. -/
  | endSwitchActivation (switch : EndSwitch) (active : Bool)
  | pauseTimerExpiry
  | jamTimerExpiry
  | gateRetry
  | trimDecision
  | gateSet (target : Half)
  | gateCalibrate (position : Half)
  | gateTrimSet (float deadband : Half)
  | gateRead
  /-- R58, R187. Each band is one 40-bit number, in band order. -/
  | planLoad (bands : List (BitVec 40))
  | holdTimerExpiry
  | planRead
  | provision (slot kind : Byte) (serial : Serial) (cls : Byte) (limit : Half) (connect : Byte)
  | edit (slot : Byte) (limit : Half) (cls : Byte)
  | closeSlot (slot : Byte)
  | openSlot (slot : Byte)
  | releaseSlot (slot : Byte)
  | retireSlot (slot : Byte)
  | recordLinkSilent (slot : Slot)
  | silenceTimeLimit (slot : Slot)
  | recloseTimerExpiry (slot : Slot)
  | liveTimeLimit (slot : Slot)
  | nextChanged
  | readRecord (slot : Byte)
  | applyPlans (scope : Byte)
  | applyComplete
  | restoreTick
  | reserveSet (reserve : Half)
  | accountRead
  | transmissionEnd
  | replyWindowTimeout
  | replyEnd
  | replyLengthLimit
  | turnEnd
  | lineStart
  | lineHold
  | lineResume
  | lineStop
  | lineStopCompletion
  | turnChoice
  | assignAbandoned (serial : Serial)
  | enrolStart
  | enrolStop
  | automaticEnrollment
  | rejoinIntervalExpiry
  | straysRead
  | strayDrop (serial : Serial)
  | lineRead
  /-- R157. The raw level of SAW_ENG becomes `engaged`. -/
  | sawEngChange (engaged : Bool)
  | debounceTimerExpiry
  | sawRequest (draw : Half)
  | waitingTimerExpiry
  | preparingTimerExpiry
  | idleTimerExpiry
  | stuckTimerExpiry
  | sawStop
  | sawSet (nominal : Half) (cls : Byte)
  | sawRead
  | tripClear
  | shedStep
  | shedIntervalExpiry
  | settledTimerExpiry
  /-- R176, R186. `fset` is the given f_set less 40,000; `interval` is in seconds. -/
  | protSet (fset tripOffset ufOffset : Half) (interval : Byte)
  | protLock
  | shedMode (mode : Byte)
  | protRead
  | transactionStart
  | noOp
  /-- R180, R181. The bits shifted in on MOSI, in their order, when CS# rises on a frame that fails a frame check. -/
  | commandFrameError (mosi : List Bool)
  | notReadyRefusal
  | responseReady
  | attnRead
  | attnClear (mask : Half)
  | ident
  | status
  | powerOnReset
  | pinReset
  | supplyReset
  /-- R119, R124. The line passes from mark to space; `samples` are its levels at the middle of the start bit and of the eight
  data bits, bit 0 the first, 1 a mark, and `stop` that at the middle of the stop bit (DESIGN CHOICE, log 11). Stations may send any (DEDUCED, log 37). -/
  | replyStartBit (samples : BitVec 9) (stop : Bool)
  /-- R184. The levels found at the end of the reset: NOMSEL high, the end switches active, SAW_ENG engaged (DESIGN CHOICE, log 10). -/
  | resetEnd (nomsel shut full engaged : Bool)
  deriving DecidableEq, Repr

end Sys2Proof
end

