-- ==== Sys2Proof/Decode.lean ====
section
/-!
DEFINITION. Reading the bytes of a host command frame (R181, R186, R187, 11.6.2, 11.6.3), and building one.
spec/opcode_table.json gives its rows no bits, so a table word spells no command.
-/

namespace Sys2Proof

/-- The command a word spells by the table's bits; the table gives bits to no row (DEDUCED, log 36). -/
def decodeTableWord (_nbits _w : Nat) : Option Instr := none

/-- R181: the frame checks, in their order. -/
inductive FrameError where
  | truncated
  | tooLong
  | badSum
  | unknownCode
  | badLength
  deriving DecidableEq, Repr

/-- What the frame checker makes of the bytes shifted in on MOSI. -/
inductive Decoded where
  | command (i : Instr)
  | rejected (why : FrameError)
  deriving DecidableEq, Repr

/-! ### Payload fields (11.6.3), each read most significant byte first (R186) -/

def readNone (i : Instr) : List Byte → Option Instr
  | [] => some i
  | _ => none

def readByte (f : Byte → Instr) : List Byte → Option Instr
  | [a] => some (f a)
  | _ => none

def readHalf (f : Half → Instr) : List Byte → Option Instr
  | [a, b] => some (f (a ++ b))
  | _ => none

def readSerial (f : Serial → Instr) : List Byte → Option Instr
  | [a, b, c, d] => some (f (a ++ b ++ c ++ d))
  | _ => none

def readTwoHalves (f : Half → Half → Instr) : List Byte → Option Instr
  | [a, b, c, d] => some (f (a ++ b) (c ++ d))
  | _ => none

def readHalfByte (f : Half → Byte → Instr) : List Byte → Option Instr
  | [a, b, c] => some (f (a ++ b) c)
  | _ => none

def readRatings : List Byte → Option Instr
  | [a0, b0, a1, b1, a2, b2, a3, b3, a4, b4, a5, b5, a6, b6, a7, b7] =>
    some (.bankRatings #v[a0 ++ b0, a1 ++ b1, a2 ++ b2, a3 ++ b3, a4 ++ b4, a5 ++ b5, a6 ++ b6, a7 ++ b7])
  | _ => none

def readEdit : List Byte → Option Instr
  | [n, a, b, c] => some (.edit n (a ++ b) c)
  | _ => none

def readProvision : List Byte → Option Instr
  | [n, k, a, b, c, d, cls, l, m, con] => some (.provision n k (a ++ b ++ c ++ d) cls (l ++ m) con)
  | _ => none

def readProtSet : List Byte → Option Instr
  | [a, b, c, d, e, f, t] => some (.protSet (a ++ b) (c ++ d) (e ++ f) t)
  | _ => none

/-- R187: bands of five bytes each. -/
def bandsOf : List Byte → Option (List (BitVec 40))
  | [] => some []
  | a :: b :: c :: d :: e :: rest => (bandsOf rest).map (fun l => (a ++ b ++ c ++ d ++ e) :: l)
  | _ => none

def readBands (payload : List Byte) : Option Instr := (bandsOf payload).map .planLoad

/-- The command index (11.6.3): each code with the reading of its payload, which answers none for a length the index does
not allow. -/
def commandIndex : List (Byte × (List Byte → Option Instr)) :=
  [ (0x00, readNone .noOp),
    (0x01, readNone .ident),
    (0x02, readNone .status),
    (0x03, readNone .attnRead),
    (0x04, readHalf .attnClear),
    (0x05, readNone .supplyReset),
    (0x10, readNone .governorRead),
    (0x11, readTwoHalves .gainSet),
    (0x12, readByte .bankDisable),
    (0x13, readByte .bankEnable),
    (0x14, readByte .bankReturn),
    (0x15, readByte .bankCheck),
    (0x16, readRatings),
    (0x20, readNone .gateRead),
    (0x21, readHalf .gateSet),
    (0x22, readHalf .gateCalibrate),
    (0x23, readNone .gateRetry),
    (0x24, readTwoHalves .gateTrimSet),
    (0x28, readNone .planRead),
    (0x29, readBands) ] ++
  [ (0x30, readByte .readRecord),
    (0x31, readNone .nextChanged),
    (0x32, readProvision),
    (0x33, readEdit),
    (0x34, readByte .closeSlot),
    (0x35, readByte .openSlot),
    (0x36, readByte .releaseSlot),
    (0x37, readByte .retireSlot),
    (0x40, readNone .accountRead),
    (0x41, readByte .applyPlans),
    (0x42, readHalf .reserveSet),
    (0x50, readNone .lineRead),
    (0x51, readNone .lineStart),
    (0x52, readNone .lineHold),
    (0x53, readNone .lineResume),
    (0x54, readNone .lineStop),
    (0x55, readNone .enrolStart),
    (0x56, readNone .enrolStop),
    (0x57, readNone .straysRead),
    (0x58, readSerial .strayDrop) ] ++
  [ (0x60, readNone .sawRead),
    (0x61, readHalf .sawRequest),
    (0x62, readNone .sawStop),
    (0x63, readHalfByte .sawSet),
    (0x70, readNone .protRead),
    (0x71, readProtSet),
    (0x72, readNone .protLock),
    (0x73, readByte .shedMode),
    (0x74, readNone .tripClear) ]

/-- The sum of bytes modulo 256. -/
def byteSum (bytes : List Byte) : Byte := bytes.foldl (· + ·) 0

/-- The most payload bytes a command has (11.6.2). -/
def commandPayloadBound : Nat := 40

/-- R181 checks 4 and 5. -/
def decodePayload (code : Byte) (payload : List Byte) : Decoded :=
  match commandIndex.lookup code with
  | none => .rejected .unknownCode
  | some read =>
    match read payload with
    | none => .rejected .badLength
    | some i => .command i

/-- R181: the five frame checks in their order. Bytes after the check byte are ignored (R180). One or two bytes are truncated,
whatever they are (DEDUCED, log 52). -/
def decodeFrame : List Byte → Decoded
  | code :: len :: rest =>
    if rest.length < len.toNat + 1 then .rejected .truncated
    else if commandPayloadBound < len.toNat then .rejected .tooLong
    else if byteSum (code :: len :: rest.take (len.toNat + 1)) ≠ 0 then .rejected .badSum
    else decodePayload code (rest.take len.toNat)
  | _ => .rejected .truncated

/-- A frame fails a frame check. -/
def frameFails (bytes : List Byte) : Bool :=
  match decodeFrame bytes with
  | .command _ => false
  | .rejected _ => true

/-! ### The bits of a transaction (R180) -/

/-- R180: the bits of a byte in the order they are shifted, most significant first. -/
def msbFirst (b : Byte) : List Bool := (List.range 8).map b.getMsbD

/-- R180: the bytes that the bits shifted in make, most significant bit first; a final byte of fewer than eight bits is
discarded. -/
def shiftedIn : List Bool → List Byte
  | b7 :: b6 :: b5 :: b4 :: b3 :: b2 :: b1 :: b0 :: rest =>
    BitVec.ofBoolListBE [b7, b6, b5, b4, b3, b2, b1, b0] :: shiftedIn rest
  | _ => []

/-- R180, R181: the row that the rise of CS# is, by the bits shifted in on MOSI. -/
def rowOfMosi (mosi : List Bool) : Instr :=
  match decodeFrame (shiftedIn mosi) with
  | .command i => i
  | .rejected _ => .commandFrameError mosi

/-! ### Building a command frame -/

def splitHalf (h : Half) : List Byte := [h.extractLsb' 8 8, h.extractLsb' 0 8]

def splitSerial (x : Serial) : List Byte :=
  [x.extractLsb' 24 8, x.extractLsb' 16 8, x.extractLsb' 8 8, x.extractLsb' 0 8]

def splitBand (w : BitVec 40) : List Byte :=
  [w.extractLsb' 32 8, w.extractLsb' 24 8, w.extractLsb' 16 8, w.extractLsb' 8 8, w.extractLsb' 0 8]

/-- The code and payload of a host command, none for a row that the host does not send. -/
def commandBody : Instr → Option (Byte × List Byte)
  | .risingCrossing _ => none
  | .silenceTimerExpiry => none
  | .bankFailedOpen _ => none
  | .bankFailedStuck _ => none
  | .bankDisable b => some (0x12, [b])
  | .bankEnable b => some (0x13, [b])
  | .bankReturn b => some (0x14, [b])
  | .bankRatings r => some (0x16, r.toList.flatMap splitHalf)
  | .bankCheck b => some (0x15, [b])
  | .checkWindowsExhausted => none
  | .gainSet kp ki => some (0x11, splitHalf kp ++ splitHalf ki)
  | .governorRead => some (0x10, [])
  | .gatePulse => none
  | .endSwitchActivation _ _ => none
  | .pauseTimerExpiry => none
  | .jamTimerExpiry => none
  | .gateRetry => some (0x23, [])
  | .trimDecision => none
  | .gateSet t => some (0x21, splitHalf t)
  | .gateCalibrate p => some (0x22, splitHalf p)
  | .gateTrimSet f d => some (0x24, splitHalf f ++ splitHalf d)
  | .gateRead => some (0x20, [])
  | .planLoad bands => some (0x29, bands.flatMap splitBand)
  | .holdTimerExpiry => none
  | .planRead => some (0x28, [])
  | .provision n k x c l con => some (0x32, [n, k] ++ splitSerial x ++ [c] ++ splitHalf l ++ [con])
  | .edit n l c => some (0x33, [n] ++ splitHalf l ++ [c])
  | .closeSlot n => some (0x34, [n])
  | .openSlot n => some (0x35, [n])
  | .releaseSlot n => some (0x36, [n])
  | .retireSlot n => some (0x37, [n])
  | .recordLinkSilent _ => none
  | .silenceTimeLimit _ => none
  | .recloseTimerExpiry _ => none
  | .liveTimeLimit _ => none
  | .nextChanged => some (0x31, [])
  | .readRecord n => some (0x30, [n])
  | .applyPlans sc => some (0x41, [sc])
  | .applyComplete => none
  | .restoreTick => none
  | .reserveSet r => some (0x42, splitHalf r)
  | .accountRead => some (0x40, [])
  | .transmissionEnd => none
  | .replyWindowTimeout => none
  | .replyEnd => none
  | .replyLengthLimit => none
  | .turnEnd => none
  | .lineStart => some (0x51, [])
  | .lineHold => some (0x52, [])
  | .lineResume => some (0x53, [])
  | .lineStop => some (0x54, [])
  | .lineStopCompletion => none
  | .turnChoice => none
  | .assignAbandoned _ => none
  | .enrolStart => some (0x55, [])
  | .enrolStop => some (0x56, [])
  | .automaticEnrollment => none
  | .rejoinIntervalExpiry => none
  | .straysRead => some (0x57, [])
  | .strayDrop x => some (0x58, splitSerial x)
  | .lineRead => some (0x50, [])
  | .sawEngChange _ => none
  | .debounceTimerExpiry => none
  | .sawRequest d => some (0x61, splitHalf d)
  | .waitingTimerExpiry => none
  | .preparingTimerExpiry => none
  | .idleTimerExpiry => none
  | .stuckTimerExpiry => none
  | .sawStop => some (0x62, [])
  | .sawSet d c => some (0x63, splitHalf d ++ [c])
  | .sawRead => some (0x60, [])
  | .tripClear => some (0x74, [])
  | .shedStep => none
  | .shedIntervalExpiry => none
  | .settledTimerExpiry => none
  | .protSet f t u i => some (0x71, splitHalf f ++ splitHalf t ++ splitHalf u ++ [i])
  | .protLock => some (0x72, [])
  | .shedMode m => some (0x73, [m])
  | .protRead => some (0x70, [])
  | .transactionStart => none
  | .noOp => some (0x00, [])
  | .commandFrameError _ => none
  | .notReadyRefusal => none
  | .responseReady => none
  | .attnRead => some (0x03, [])
  | .attnClear m => some (0x04, splitHalf m)
  | .ident => some (0x01, [])
  | .status => some (0x02, [])
  | .powerOnReset => none
  | .pinReset => none
  | .supplyReset => some (0x05, [])
  | .replyStartBit _ _ => none
  | .resetEnd _ _ _ _ => none

/-- A frame's bytes before its check byte. -/
def frameHead (code : Byte) (payload : List Byte) : List Byte := code :: BitVec.ofNat 8 payload.length :: payload

/-- R181, 11.6.2: the frame with the check byte that brings its sum to 0 modulo 256. -/
def buildFrame (code : Byte) (payload : List Byte) : List Byte :=
  frameHead code payload ++ [- byteSum (frameHead code payload)]

/-- The frame the host sends for a command. -/
def encodeFrame (i : Instr) : Option (List Byte) := (commandBody i).map (fun b => buildFrame b.1 b.2)

end Sys2Proof
end

