-- ==== Sys2Proof/Config.lean ====
section
/-!
DEFINITION. What the manual fixes for every MS-7 (times, sizes, defaults), and the free values: the choices the manual leaves
open, each a constant without a body, so that no statement can rest on its value.
-/

namespace Sys2Proof.Config

/-- R10: the silence timer, in microseconds. -/
def silenceTime : Nat := 100000
/-- R46: the pause after a run. -/
def pauseTime : Nat := 500000
/-- R47: the jam timer. -/
def jamTime : Nat := 4000000
/-- R63: the hold timer. -/
def holdTime : Nat := 300000000
/-- R90: the reclose timer. -/
def recloseTime : Nat := 60000000
/-- R88, R91: the end of the silence time and of live time, 600 s. -/
def longTime : Nat := 600000000
/-- R111: the restore tick. -/
def restoreTime : Nat := 5000000
/-- R124: the reply window. -/
def windowTime : Nat := 25000
/-- R124: the gap that ends a reply. -/
def gapTime : Nat := 3000
/-- R125: the longest reply. -/
def replyLimitTime : Nat := 60000
/-- R124: the quiet gap. -/
def quietTime : Nat := 5000
/-- R151: the rejoin interval. -/
def rejoinTime : Nat := 60000000
/-- R157: the debounce time of SAW_ENG. -/
def debounceTime : Nat := 50000
/-- R160: the stay in Waiting. -/
def waitingTime : Nat := 120000000
/-- R161: the stay in Preparing. -/
def preparingTime : Nat := 180000000
/-- R162: the time a permit may stay unused. -/
def idleTime : Nat := 600000000
/-- R163: the time the clutch has to come out. -/
def stuckTime : Nat := 3000000
/-- R175: the run of completions that makes the frequency settled. -/
def settledTime : Nat := 30000000

/-- R139: places of the errand queue. -/
def errandPlaces : Nat := 4
/-- R152: places of the stray list. -/
def strayPlaces : Nat := 8
/-- R20, R139: the bound of FF and of a shed entry's amount. -/
def feedBound : Nat := 16000
/-- R72: the least target limit of a Connected record. -/
def leastLimit : Nat := 10

/-- 2.6: the default ratings of banks 0 to 7. -/
def defaultRatings : Vector Nat 8 := #v[10, 20, 40, 80, 160, 320, 640, 1280]

/-- FREE VALUE (R9, R15): the order in which the four receivers take a window completion, read as the number of a
permutation. Applied to the counter `choices`. -/
opaque receiverOrder : Nat → Nat

/-- FREE VALUE (R10, R47, R64, R90, R124, R157, R160 to R163, R175): the order in which timers that run out together are taken, read
as the number of a permutation. Applied to the counter `choices`. -/
opaque expiryOrder : Nat → Nat

/-- FREE VALUE (R181): how long the forming of a response takes, in microseconds, before it is brought within the bound
the rule gives. Applied to the counter `choices`. -/
opaque responseTime : Nat → Nat

/-- FREE VALUE (R186): the bytes that stand for an absent serial or prefix, whose absence is shown beside it. Applied to
the number of the byte. -/
opaque absentByte : Nat → Byte

end Sys2Proof.Config
end

