-- ==== Sys2Proof/Machine/State.lean ====
section
/-!
DEFINITION. The state of the MS-7, block by block as the chapters give it, the reasons a step can stop, and the state after
reset. Everything is plain data. Values the chapters call derived (B_cap, Bs, shares, M, P, K, pins) are functions elsewhere.
-/

namespace Sys2Proof.Machine

/-- Why a step stops with a fault. The spec gives the part no stop (INVENTORY.md, Faults), so there is no reason here. -/
inductive Fault where
  deriving DecidableEq, Repr

/-- Why a step is refused. -/
inductive Refusal where
  /-- Raised by an arm of `exec` whose command has no meaning yet; safe, since nothing is claimed of it. -/
  | notModelled (mnemonic : String)
  deriving DecidableEq, Repr

/-- A timer (3.5): absent while stopped, else the microseconds left until it runs out. -/
abbrev Timer := Option Nat

/-- The two reset kinds that a reset in progress or the start cause can be (3.6, R184). -/
inductive ResetKind where
  | powerOn
  | pin
  deriving DecidableEq, Repr

/-! ### The frequency measurement unit (1.2) -/

inductive FmuState where
  | acquiring
  | tracking
  | lost
  deriving DecidableEq, Repr

inductive RangeFlag where
  | inRange
  | below
  | above
  deriving DecidableEq, Repr

structure Fmu where
  timebase  : BitVec 24
  reference : Option (BitVec 24)
  /-- Accepted periods, oldest first. -/
  window    : List Nat
  state     : FmuState
  silence   : Timer
  lastF     : Option Nat
  flag      : RangeFlag
  deriving DecidableEq, Repr

/-! ### The ballast governor (2.2, 2.6) -/

inductive FailReason where
  | openCircuit
  | stuck
  deriving DecidableEq, Repr

inductive BankState where
  | absent
  | ready
  | failed (reason : FailReason)
  | disabled
  | checking
  deriving DecidableEq, Repr

structure Bank where
  rating : Nat
  state  : BankState
  miss   : Nat
  stuck  : Nat
  on     : Bool
  deriving DecidableEq, Repr

structure CheckRecord where
  bank    : BankNo
  windows : Nat
  chosen  : Bool
  deriving DecidableEq, Repr

inductive CheckResult where
  | pass
  | fail
  | notExercised
  deriving DecidableEq, Repr

structure Governor where
  /-- B_fine, in 1/1,024 count. -/
  bFine     : Nat
  b         : Nat
  carry     : Nat
  s         : Nat
  ff        : Int
  ePrev     : Int
  reseed    : Bool
  kp        : Nat
  ki        : Nat
  /-- f_set less the nominal frequency. -/
  offset    : Int
  banks     : Vector Bank 8
  check     : Option CheckRecord
  lastCheck : Option (BankNo × CheckResult)
  deriving DecidableEq, Repr

/-! ### The guide vane positioner (3.2) -/

inductive JamCause where
  | stall
  | switches
  deriving DecidableEq, Repr

inductive Drive where
  | stopped
  | opening
  | closing
  | pausing
  | jammed (cause : JamCause)
  deriving DecidableEq, Repr

structure Gate where
  p          : Nat
  prescaler  : Nat
  calibrated : Bool
  /-- g_t. -/
  target     : Nat
  drive      : Drive
  pause      : Timer
  jam        : Timer
  trim       : Nat
  float      : Nat
  deadband   : Nat
  /-- The level of GATE_SHUT. -/
  shut       : Bool
  /-- The level of GATE_FULL. -/
  full       : Bool
  deriving DecidableEq, Repr

/-! ### The water plan (4.2) -/

structure Band where
  threshold : Nat
  ceiling   : Nat
  capacity  : Nat
  deriving DecidableEq, Repr

/-- A loaded plan with the number of its band in force, counted from 1. -/
structure WaterPlan where
  bands   : List Band
  inForce : Nat
  deriving DecidableEq, Repr

/-- The level source states; `absent` is the manual's None. -/
inductive LevelSource where
  | absent
  | waiting
  | live
  | holding
  | lost
  deriving DecidableEq, Repr

structure Water where
  plan   : Option WaterPlan
  source : LevelSource
  level  : Option Nat
  hold   : Timer
  deriving DecidableEq, Repr

/-! ### The station table (5.2) -/

inductive Kind where
  | service
  | gauge
  deriving DecidableEq, Repr

/-- A breaker, a limit and a class: a target (R73) or the acknowledged settings (R74). -/
structure Settings where
  closed : Bool
  limit  : Nat
  cls    : Nat
  deriving DecidableEq, Repr

/-- A plan of a record: a staged limit and class, with its raise-deferred flag (R76). -/
structure Staged where
  limit    : Nat
  cls      : Nat
  deferred : Bool
  deriving DecidableEq, Repr

inductive TripReason where
  | overcurrent
  | leakage
  deriving DecidableEq, Repr

/-- The condition of a Service record with the companion fields of each (R72). -/
inductive Condition where
  | off
  | connected
  /-- `demand` is demand-at-shed and is present with the Frequency flag; `capacity` is the Capacity flag. -/
  | shed (demand : Option Nat) (capacity : Bool)
  /-- The trip reason is Overcurrent (R89). A timer is the reclose timer; none is reclose due (R90). -/
  | tripped (reclose : Timer)
  | isolated (reason : TripReason)
  deriving DecidableEq, Repr

inductive Life where
  | provisioned
  | enrolled
  | retiring
  deriving DecidableEq, Repr

/-- The mute errand of a record; `idle` is the manual's None (R83). -/
inductive MuteErrand where
  | idle
  | wanted
  | queued
  deriving DecidableEq, Repr

/-- The fields of a non-Vacant Service record alone. The condition, trip count, live time and push deferred flag count from
enrollment on. -/
structure Service where
  connectOnEnrol : Bool
  limit          : Nat
  cls            : Nat
  staged         : Option Staged
  ack            : Option Settings
  demand         : Option Nat
  condition      : Condition
  /-- The trip count, 0 or 1. -/
  tripCount      : Bool
  /-- Live time in microseconds. -/
  live           : Nat
  pushDeferred   : Bool
  deriving DecidableEq, Repr

/-- The fields of every non-Vacant record. -/
structure Station where
  serial  : Serial
  life    : Life
  missed  : Nat
  /-- Absent while Answering; the silence time in microseconds while Silent. -/
  silence : Option Nat
  mute    : MuteErrand
  /-- Absent for a Gauge record. -/
  service : Option Service
  deriving DecidableEq, Repr

/-- A record; it is Vacant while it holds no station. -/
structure Record where
  changed : Bool
  station : Option Station
  deriving DecidableEq, Repr

/-- The Vacant record with its changed flag clear (R97). -/
def Record.vacant : Record := ⟨false, none⟩

/-! ### The supply account (6.2) -/

inductive Mark where
  | pending
  | confirmed
  | unconfirmed
  deriving DecidableEq, Repr

/-- An Apply in flight (R104). `scope` is the byte the APPLY gave (R187). -/
structure Apply where
  scope    : Byte
  marks    : List (Slot × Mark)
  deferred : Nat
  deriving DecidableEq, Repr

structure ApplyResult where
  changed     : Nat
  deferred    : Nat
  unconfirmed : Nat
  deriving DecidableEq, Repr

structure Account where
  reserve      : Nat
  isOver       : Bool
  unresolvable : Bool
  apply        : Option Apply
  last         : Option ApplyResult
  tick         : Timer
  deriving DecidableEq, Repr

/-! ### The line port (7.3, 7.5) -/

/-- A serial prefix: its length and its bits, left-aligned, unused low bits 0 (R122, R186). -/
structure Prefix where
  len  : Nat
  bits : BitVec 32
  deriving DecidableEq, Repr

/-- The messages of the part (R122). A slot stands for the station number one above it. A SHED carries beside its class the
feed-forward amount of its entry, which is posted at its sent event and is not on the wire (R142). -/
inductive Message where
  | query (slot : Slot)
  | order (slot : Slot) (target : Settings)
  | shed (cls amount : Nat)
  | roll (pre : Prefix)
  | assign (serial : Serial) (slot : Slot)
  | mute (serial : Serial)
  | lineClear
  deriving DecidableEq, Repr

inductive Phase where
  | idle
  | transmitting
  | window
  | receiving
  | quiet
  deriving DecidableEq, Repr

/-- The turn in flight: its message, the kind of report it expects (R122), and whether a supply reset voided it (R128). -/
structure Turn where
  message : Message
  expect  : Option Kind
  void    : Bool
  deriving DecidableEq, Repr

structure LinePort where
  phase   : Phase
  turn    : Option Turn
  /-- The characters of the reply, in the order received. -/
  reply   : List Byte
  /-- A character of the reply had a framing error. -/
  framing : Bool
  timer   : Timer
  gap     : Timer
  limit   : Timer
  deriving DecidableEq, Repr

/-! ### The line engine (8.2) -/

inductive EngineState where
  | stopped
  | running
  | held
  deriving DecidableEq, Repr

structure ShedEntry where
  cls    : Nat
  amount : Nat
  deriving DecidableEq, Repr

inductive Origin where
  | claim
  | roll
  deriving DecidableEq, Repr

inductive Errand where
  | assign (serial : Serial) (slot : Slot) (origin : Origin) (attempts : Nat)
  | mute (serial : Serial)
  deriving DecidableEq, Repr

inductive EnrolKind where
  | byHost
  | automatic
  deriving DecidableEq, Repr

inductive Enrolment where
  | inactive
  | active (kind : EnrolKind) (restart : Bool)
  deriving DecidableEq, Repr

structure EnrolCounts where
  matched    : Nat
  strays     : Nat
  dropped    : Nat
  duplicates : Nat
  deriving DecidableEq, Repr

inductive Ending where
  | complete
  | stopped
  deriving DecidableEq, Repr

structure EnrolReport where
  kind   : EnrolKind
  ending : Ending
  counts : EnrolCounts
  deriving DecidableEq, Repr

structure Engine where
  state         : EngineState
  fresh         : Bool
  stopping      : Bool
  sheds         : List ShedEntry
  errands       : List Errand
  /-- The push hold set, with no slot twice. -/
  hold          : List Slot
  cursor        : Slot
  lastRoll      : Bool
  enrolment     : Enrolment
  /-- The roll-call stack, top first. -/
  stack         : List Prefix
  counts        : EnrolCounts
  lastReport    : Option EnrolReport
  strays        : List Serial
  overflow      : Bool
  abandoned     : Nat
  lastAbandoned : Option Serial
  rejoin        : Timer
  deriving DecidableEq, Repr

/-! ### The saw permit unit (9.2) -/

inductive SawState where
  | idle
  | waiting
  | preparing
  | released
  | cutting
  | closing
  | fault
  deriving DecidableEq, Repr

inductive SawEvent where
  | refused
  | noSurplus
  | shed
  | unreleased
  | stuckClutch
  | clutchFreed
  deriving DecidableEq, Repr

structure Saw where
  state     : SawState
  /-- D. -/
  draw      : Option Nat
  /-- s, the reservation counted in M. -/
  reserved  : Nat
  engaged   : Nat
  nominal   : Nat
  cls       : Nat
  /-- The debounced clutch state: true is Engaged. -/
  clutch    : Bool
  /-- The raw level of SAW_ENG. -/
  raw       : Bool
  debounce  : Timer
  waiting   : Timer
  preparing : Timer
  idle      : Timer
  stuck     : Timer
  lastEvent : Option SawEvent
  deriving DecidableEq, Repr

/-! ### The protection unit (10.2) -/

/-- The settled timer, and the condition that holds once it has run out (R175). -/
inductive Settled where
  | stopped
  | running (left : Nat)
  | holds
  deriving DecidableEq, Repr

/-- The outcome of a shed step (R172 to R174). -/
inductive ShedOutcome where
  | shed (cls marked amount : Nat)
  | passed (cls : Nat)
  | deficit
  deriving DecidableEq, Repr

structure Protection where
  trip         : Bool
  uf           : Nat
  interval     : Timer
  settled      : Settled
  tripOffset   : Nat
  ufOffset     : Nat
  /-- The shed interval in seconds. -/
  shedInterval : Nat
  auto         : Bool
  lock         : Bool
  lastStep     : Option ShedOutcome
  deriving DecidableEq, Repr

/-! ### The command port (11.1) -/

/-- The fourteen attention flags, in the order of their bits (R182, 11.6.2). -/
inductive Attn where
  | bank
  | check
  | gate
  | trip
  | signal
  | underfreq
  | deficit
  | level
  | account
  | apply
  | enrol
  | stray
  | station
  | saw
  deriving DecidableEq, Repr

/-- The result codes, in the order of their values (R181, 11.6.2). -/
inductive Result where
  | done
  | started
  | busy
  | refused
  | noplan
  | state
  | range
  | locked
  | full
  | duplicate
  | frame
  | notReady
  deriving DecidableEq, Repr

structure Response where
  result  : Result
  echo    : Byte
  payload : List Byte
  deriving DecidableEq, Repr

/-- The reads, whose payload is formed with the response (R13, R38, R55, R67, R96, R117, R153, R154, R167, R178, R182, R183). -/
inductive Reading where
  | governor
  | gate
  | plan
  | record (slot : Slot)
  | account
  | line
  | strays
  | saw
  | protection
  | attention
  | ident
  | status
  deriving DecidableEq, Repr

/-- What a command is answered with. -/
inductive Reply where
  | fixed (result : Result) (payload : List Byte)
  /-- DONE, with the payload of a read. -/
  | reading (what : Reading)
  deriving DecidableEq, Repr

/-- A response being formed, with the code it echoes. -/
structure Forming where
  echo  : Byte
  reply : Reply
  deriving DecidableEq, Repr

/-- A transaction in progress: the bytes loaded for MISO when CS# fell, and whether it is a NOT READY one (R180, R181). -/
structure Transaction where
  out      : List Byte
  notReady : Bool
  deriving DecidableEq, Repr

structure HostPort where
  buffer      : Response
  forming     : Option Forming
  timer       : Timer
  transaction : Option Transaction
  deriving DecidableEq, Repr

/-! ### The whole state -/

structure State where
  /-- A power-on or pin reset in progress (R184). -/
  resetting  : Option ResetKind
  startCause : ResetKind
  /-- The nominal frequency is 60,000 (R184). -/
  sixty      : Bool
  fmu        : Fmu
  gov        : Governor
  gate       : Gate
  water      : Water
  table      : Vector Record 64
  account    : Account
  port       : LinePort
  engine     : Engine
  saw        : Saw
  prot       : Protection
  /-- The attention set (R182). -/
  attn       : Half
  host       : HostPort
  /-- The model's own: how many free values have been used. -/
  choices    : Nat
  /-- The model's own: the rows of what ran out in the microsecond last counted (log 3). -/
  ranOut     : List Instr
  /-- The commands that wait, the first to be taken first. -/
  pending    : List Instr
  deriving DecidableEq, Repr

/-! ### Values after reset (R14, R39, R56, R68, R97, R118, R134, R155, R168, R179, R184) -/

/-- A bank with the state its rating gives it (R33, R39), with its output as it stands. -/
def Bank.atReset (rating : Nat) (on : Bool) : Bank :=
  ⟨rating, if rating = 0 then .absent else .ready, 0, 0, on⟩

def Fmu.atReset : Fmu := ⟨0, none, [], .acquiring, none, none, .inRange⟩

/-- R39. The ratings, the outputs (held by the latch until the strobe) and the offset are given. -/
def Governor.atReset (banks : Vector Bank 8) (offset : Int) : Governor :=
  ⟨0, 0, 0, 0, 0, 0, true, 64, 16, offset, banks, none, none⟩

def Gate.atReset : Gate := ⟨500, 0, false, 500, .stopped, none, none, 0, 300, 50, false, false⟩

def Water.atReset : Water := ⟨none, .absent, none, none⟩

def Account.atReset : Account := ⟨200, false, false, none, none, none⟩

def LinePort.atReset : LinePort := ⟨.idle, none, [], false, none, none, none⟩

def Engine.atReset : Engine :=
  { state := .stopped, fresh := true, stopping := false, sheds := [], errands := [], hold := [], cursor := 0,
    lastRoll := false, enrolment := .inactive, stack := [], counts := ⟨0, 0, 0, 0⟩, lastReport := none, strays := [],
    overflow := false, abandoned := 0, lastAbandoned := none, rejoin := none }

def Saw.atReset : Saw :=
  { state := .idle, draw := none, reserved := 0, engaged := 0, nominal := 1500, cls := 2, clutch := false, raw := false,
    debounce := none, waiting := none, preparing := none, idle := none, stuck := none, lastEvent := none }

def Protection.atReset : Protection := ⟨false, 0, none, .stopped, 5000, 1000, 2, true, false, none⟩

/-- R184: the buffer holds the NO-OP response. -/
def HostPort.atReset : HostPort := ⟨⟨.done, 0, []⟩, none, none, none⟩

/-- The machine at the end of a power-on reset with NOMSEL low, no end switch active and the clutch out (DESIGN CHOICE, log 16). -/
def State.reset : State where
  resetting := none
  startCause := .powerOn
  sixty := false
  fmu := { Fmu.atReset with silence := some Config.silenceTime }
  gov := Governor.atReset (Config.defaultRatings.map (Bank.atReset · false)) 0
  gate := Gate.atReset
  water := Water.atReset
  table := Vector.replicate 64 Record.vacant
  account := { Account.atReset with tick := some Config.restoreTime }
  port := LinePort.atReset
  engine := Engine.atReset
  saw := Saw.atReset
  prot := Protection.atReset
  attn := 0
  host := HostPort.atReset
  choices := 0
  ranOut := []
  pending := []

end Sys2Proof.Machine
end

