-- ==== Sys2Proof/Machine/Operands.lean ====
section
/-!
DEFINITION. Reading the parameters of host commands: slots, banks, enumerations, flags, the APPLY scope and the bands of
PLAN LOAD (R181, R186, R187). A byte outside the defined values reads as none, which the commands answer with RANGE.
-/

namespace Sys2Proof.Machine

/-- A slot byte, none where it exceeds 63 (R69). -/
def slotOf (b : Byte) : Option Slot := if h : b.toNat < 64 then some ⟨b.toNat, h⟩ else none

/-- A bank byte, none outside 0 to 7 (2.8). -/
def bankOf (b : Byte) : Option BankNo := if h : b.toNat < 8 then some ⟨b.toNat, h⟩ else none

/-- R187: 00h is Service and 01h is Gauge. -/
def kindOf (b : Byte) : Option Kind := if b = 0 then some .service else if b = 1 then some .gauge else none

/-- A flag byte (R186): 00h clear, 01h set; another value is out of range (DEDUCED, log 28). -/
def flagOf (b : Byte) : Option Bool := if b = 0 then some false else if b = 1 then some true else none

/-- A class byte of a station, none where it exceeds 3 (R77, R78). -/
def classOf (b : Byte) : Option Nat := if b.toNat ≤ 3 then some b.toNat else none

/-- A target or plan limit, none where it exceeds 2,000 (R77, R78). -/
def limitOf (h : Half) : Option Nat := if h.toNat ≤ 2000 then some h.toNat else none

/-- The scopes of APPLY (R102). -/
inductive Scope where
  | slot (n : Slot)
  | cls (c : Nat)
  | all
  deriving DecidableEq, Repr

/-- R187: bits 7 and 6 give the kind, bits 5 to 0 the slot or the class; kind 11 and a class above 3 are out of range.
With kind 10 bits 5 to 0 are ignored (DESIGN CHOICE, log 44). -/
def scopeOf (b : Byte) : Option Scope :=
  let low := b.extractLsb' 0 6
  if b.extractLsb' 6 2 = 0 then some (.slot low.toFin)
  else if b.extractLsb' 6 2 = 1 then (if low.toNat ≤ 3 then some (.cls low.toNat) else none)
  else if b.extractLsb' 6 2 = 2 then some .all
  else none

/-- R187: bits 39 to 28 the threshold, 27 to 18 the ceiling, 17 to 5 the capacity. -/
def bandOf (w : BitVec 40) : Band :=
  ⟨(w.extractLsb' 28 12).toNat, (w.extractLsb' 18 10).toNat, (w.extractLsb' 5 13).toNat⟩

/-- R58, R57: every threshold is greater than the one before it. -/
def ascending : List Band → Bool
  | a :: b :: rest => decide (a.threshold < b.threshold) && ascending (b :: rest)
  | _ => true

/-- R58: the four checks of PLAN LOAD, each answered with RANGE. -/
def planInRange (bands : List Band) : Bool :=
  decide (1 ≤ bands.length ∧ bands.length ≤ 8) &&
    bands.all (fun b => decide (b.threshold ≤ 4000 ∧ b.ceiling ≤ 1000 ∧ b.capacity ≤ 6000)) &&
    (match bands with
      | b :: _ => decide (b.threshold = 0)
      | [] => false) &&
    ascending bands

end Sys2Proof.Machine
end

