-- ==== Sys2Proof/Machine/Flags.lean ====
section
/-!
DEFINITION. The attention set (R182, 11.6.2): the place of each flag, raising, clearing, and the ATTN# line.
-/

namespace Sys2Proof.Machine

/-- The bit of a flag in the attention set and in the ATTN CLEAR mask (11.6.2). -/
def Attn.bit : Attn → Half
  | .bank      => 0x0001
  | .check     => 0x0002
  | .gate      => 0x0004
  | .trip      => 0x0008
  | .signal    => 0x0010
  | .underfreq => 0x0020
  | .deficit   => 0x0040
  | .level     => 0x0080
  | .account   => 0x0100
  | .apply     => 0x0200
  | .enrol     => 0x0400
  | .stray     => 0x0800
  | .station   => 0x1000
  | .saw       => 0x2000

/-- The fourteen flags (R182). -/
def attnMask : Half := 0x3FFF

/-- R182: raising a flag that is already set changes nothing. -/
def State.raise (a : Attn) (s : State) : State := { s with attn := s.attn ||| a.bit }

/-- Raise a flag where a condition holds. -/
def State.raiseIf (c : Bool) (a : Attn) (s : State) : State := bif c then s.raise a else s

/-- A flag is set. -/
def State.attention (s : State) (a : Attn) : Bool := s.attn &&& a.bit != 0

/-- R182: the flags a mask names are cleared; bits that name no flag are ignored. -/
def State.clearAttn (mask : Half) (s : State) : State := { s with attn := s.attn &&& ~~~mask }

/-- R182: ATTN# is driven low while any flag is set. -/
def State.attnLow (s : State) : Bool := s.attn != 0

/-- R185: the flags a supply reset clears: APPLY, ENROL, STRAY, STATION, ACCOUNT, SAW, UNDERFREQ and DEFICIT. -/
def supplyResetMask : Half :=
  Attn.apply.bit ||| Attn.enrol.bit ||| Attn.stray.bit ||| Attn.station.bit ||| Attn.account.bit ||| Attn.saw.bit |||
    Attn.underfreq.bit ||| Attn.deficit.bit

end Sys2Proof.Machine
end

