-- ==== Sys2Proof/Machine/Ops.lean ====
section
/-!
DEFINITION. Operations that every block uses: acting outside a reset, taking a host command and answering it, the free
choices, whole seconds, the station table's records with the values derived from them (R73 to R75, R98), the outputs of the
water plan (R65) and the comparator's room (R99).
-/

namespace Sys2Proof.Machine

/-- An event acts on the part unless a power-on or pin reset is in progress (R184, DEDUCED, log 13). -/
def live (f : State → State) (s : State) : Host.Outcome State Fault Refusal :=
  .next (match s.resetting with
    | none => f s
    | some _ => s)

/-! ### Host commands (R180, R181) -/

/-- The command being shifted in belongs to a NOT READY transaction and is refused with BUSY (R181). -/
def HostPort.refuses (h : HostPort) : Bool :=
  match h.transaction with
  | some t => t.notReady
  | none => false

/-- CS# rises: the transaction is over (R180). -/
def State.closeTransaction (s : State) : State := { s with host := { s.host with transaction := none } }

/-- A command is taken and its response is being formed: within `bound` microseconds it is ready (R181, DESIGN CHOICE, log 5). -/
def State.answer (code : Byte) (bound : Nat) (r : Reply) (s : State) : State :=
  { s with
    host := { s.host with
      forming := some ⟨code, r⟩
      timer := some (max 1 (min (Config.responseTime s.choices) bound))
      transaction := none }
    choices := s.choices + 1 }

/-- R181: the answer of most commands is formed within 100 microseconds. -/
def promptBound : Nat := 100

/-- R181: APPLY, PLAN LOAD, PROVISION and SUPPLY RESET may take up to 400 microseconds. -/
def slowBound : Nat := 400

/-- A host command whose frame has passed the checks: refused in a NOT READY transaction, else carried out and
answered (R181, DESIGN CHOICE, log 8). -/
def command (code : Byte) (bound : Nat) (f : State → State × Reply) (s : State) :
    Host.Outcome State Fault Refusal :=
  live (fun s =>
    if s.host.refuses then s.closeTransaction
    else State.answer code bound (f s).2 (f s).1) s

/-- An answer without a payload. -/
def Reply.plain (r : Result) : Reply := .fixed r []

/-! ### Free choices and time -/

/-- The permutation of a list with a given number: each digit, in the factorial base, picks the next element of those left. -/
def permuteAux {α : Type} : Nat → Nat → List α → List α
  | 0, _, _ => []
  | k + 1, n, l =>
    match l[n % l.length]? with
    | none => []
    | some x => x :: permuteAux k (n / l.length) (l.eraseIdx (n % l.length))

def permute {α : Type} (n : Nat) (l : List α) : List α := permuteAux l.length n l

/-- Whole seconds, rounded up: the time remaining of a read (R186). A timer whose running out has not been taken yet still
has time left (DEDUCED, log 25). -/
def secondsUp (us : Nat) : Nat := max 1 ((us + 999999) / 1000000)

/-- Whole seconds elapsed (DEDUCED, log 25). -/
def secondsDown (us : Nat) : Nat := us / 1000000

/-- R37: the nominal frequency in mHz. -/
def State.nominal (s : State) : Int := if s.sixty then 60000 else 50000

/-- R37: f_set in mHz. -/
def State.fset (s : State) : Int := s.nominal + s.gov.offset

/-- A value limited to a range (3.3). -/
def clampInt (lo hi x : Int) : Int := max lo (min hi x)

def clampNat (lo hi x : Nat) : Nat := max lo (min hi x)

/-! ### Records (5.2) -/

/-- The slots of the station table, ascending (R69). -/
def slots : List Slot := List.finRange 64

def State.record (s : State) (n : Slot) : Record := s.table[n]

def State.setRecord (n : Slot) (r : Record) (s : State) : State := { s with table := s.table.set n r }

/-- The station a record holds, none while it is Vacant. -/
def State.station (s : State) (n : Slot) : Option Station := (s.record n).station

/-- Replace the station of a non-Vacant record. -/
def State.setStation (n : Slot) (st : Station) (s : State) : State :=
  s.setRecord n { s.record n with station := some st }

/-- The Enrolled and Retiring records are polled and pushed and count in the account (R71). -/
def Station.onLine (st : Station) : Bool :=
  match st.life with
  | .provisioned => false
  | .enrolled => true
  | .retiring => true

def Station.kind (st : Station) : Kind :=
  match st.service with
  | some _ => .service
  | none => .gauge

/-- R73: the target breaker is closed exactly when the condition is Connected and the lifecycle is Enrolled. -/
def Station.targetClosed (st : Station) : Bool :=
  match st.service with
  | some sv => decide (sv.condition = .connected) && decide (st.life = .enrolled)
  | none => false

/-- R73: the target of a Service record. -/
def Station.target (st : Station) (sv : Service) : Settings := ⟨st.targetClosed, sv.limit, sv.cls⟩

/-- R73: the target limit while the target breaker is closed, else 0. -/
def Station.intendedShare (st : Station) : Nat :=
  match st.service with
  | some sv => if st.targetClosed then sv.limit else 0
  | none => 0

/-- R74: the acknowledged limit while the acknowledged breaker is closed, else 0. -/
def Station.ackShare (st : Station) : Nat :=
  match st.service with
  | some sv =>
    match sv.ack with
    | some a => if a.closed then a.limit else 0
    | none => 0
  | none => 0

/-- R74: the larger of the two for an Enrolled or Retiring Service record, else 0. -/
def Station.share (st : Station) : Nat := if st.onLine then max st.ackShare st.intendedShare else 0

/-- R75: target and acknowledged differ in breaker, limit or class. -/
def Station.pushPending (st : Station) : Bool :=
  match st.service with
  | some sv => st.onLine && decide (sv.ack ≠ some (st.target sv))
  | none => false

def Record.share (r : Record) : Nat :=
  match r.station with
  | some st => st.share
  | none => 0

def Record.intendedShare (r : Record) : Nat :=
  match r.station with
  | some st => st.intendedShare
  | none => 0

/-- The Service fields of an Enrolled or Retiring record, with its station (R71, R72). -/
def State.onLineService (s : State) (n : Slot) : Option (Station × Service) :=
  match s.station n with
  | some st =>
    match st.service with
    | some sv => if st.onLine then some (st, sv) else none
    | none => none
  | none => none

/-- The Service fields of an Enrolled record, with its station. -/
def State.enrolledService (s : State) (n : Slot) : Option (Station × Service) :=
  match s.onLineService n with
  | some (st, sv) => if st.life = .enrolled then some (st, sv) else none
  | none => none

/-- Write a record's Service fields. -/
def State.setService (n : Slot) (st : Station) (sv : Service) (s : State) : State :=
  s.setStation n { st with service := some sv }

/-! ### What runs out (3.5) -/

/-- What a row of a timer or a time finds: it still stands at its end. -/
def State.atEnd (s : State) : Instr → Bool
  | .silenceTimerExpiry => decide (s.fmu.silence = some 0)
  | .pauseTimerExpiry => decide (s.gate.pause = some 0)
  | .jamTimerExpiry => decide (s.gate.jam = some 0)
  | .holdTimerExpiry => decide (s.water.hold = some 0)
  | .restoreTick => decide (s.account.tick = some 0)
  | .transmissionEnd => decide (s.port.timer = some 0)
  | .replyWindowTimeout => decide (s.port.timer = some 0)
  | .turnEnd => decide (s.port.timer = some 0)
  | .replyEnd => decide (s.port.gap = some 0)
  | .replyLengthLimit => decide (s.port.limit = some 0)
  | .rejoinIntervalExpiry => decide (s.engine.rejoin = some 0)
  | .debounceTimerExpiry => decide (s.saw.debounce = some 0)
  | .waitingTimerExpiry => decide (s.saw.waiting = some 0)
  | .preparingTimerExpiry => decide (s.saw.preparing = some 0)
  | .idleTimerExpiry => decide (s.saw.idle = some 0)
  | .stuckTimerExpiry => decide (s.saw.stuck = some 0)
  | .shedIntervalExpiry => decide (s.prot.interval = some 0)
  | .settledTimerExpiry => decide (s.prot.settled = .running 0)
  | .responseReady => decide (s.host.timer = some 0)
  | .silenceTimeLimit n => decide ((s.station n).bind Station.silence = some (Config.longTime - 1))
  | .recloseTimerExpiry n => decide ((s.onLineService n).map (fun x => x.2.condition) = some (.tripped (some 0)))
  | .liveTimeLimit n => decide ((s.onLineService n).map (fun x => x.2.live) = some (Config.longTime - 1))
  | _ => true

/-- A row of this microsecond whose timer another event has stopped or started again: the timeout does not happen (R10,
R47, R124). A row that no timer has put into the queue is never stale (DESIGN CHOICE, log 2). -/
def State.stale (s : State) (row : Instr) : Bool := s.ranOut.contains row && !s.atEnd row

/-- The running out of a timer: `f` is what it does unless its row is stale. -/
def expiry (row : Instr) (f : State → State) (s : State) : Host.Outcome State Fault Refusal :=
  live (fun s => if s.stale row then s else f s) s

/-! ### The changed flag and the holders (R70, R94) -/

/-- R94: set a record's changed flag; where it passes from clear to set, the STATION event raises attention STATION. -/
def State.markChanged (n : Slot) (s : State) : State :=
  if (s.record n).changed then s else (s.setRecord n { s.record n with changed := true }).raise .station

/-- The lowest slot whose record holds a serial (R70). -/
def State.holder (s : State) (x : Serial) : Option Slot :=
  slots.find? (fun n =>
    match s.station n with
    | some st => decide (st.serial = x)
    | none => false)

/-- The slot of the non-Vacant Gauge record (R70). -/
def State.gaugeSlot (s : State) : Option Slot :=
  slots.find? (fun n =>
    match s.station n with
    | some st => decide (st.kind = .gauge)
    | none => false)

/-! ### The account's sums (R98) and the water plan's outputs (R65) -/

/-- R98: the committed total. -/
def State.committed (s : State) : Nat := (s.table.toList.map Record.share).sum + s.saw.reserved

/-- R98: the intended total. -/
def State.intended (s : State) : Nat := (s.table.toList.map Record.intendedShare).sum + s.saw.reserved

/-- The band with a number counted from 1 (R57). -/
def WaterPlan.band (p : WaterPlan) (b : Nat) : Band := p.bands.getD (b - 1) ⟨0, 0, 0⟩

/-- R65: the capacity of the band in force, absent while the plan is absent. -/
def Water.capacity (w : Water) : Option Nat := w.plan.map (fun p => (p.band p.inForce).capacity)

/-- R65: the ceiling of the band in force, 1,000 while the plan is absent. -/
def Water.ceiling (w : Water) : Nat :=
  match w.plan with
  | some p => (p.band p.inForce).ceiling
  | none => 1000

/-- K - R, absent with the plan. -/
def State.room (s : State) : Option Int := s.water.capacity.map (fun k => (k : Int) - (s.account.reserve : Int))

/-- R99: the plan is present and M > K - R. -/
def State.overcommitted (s : State) : Bool :=
  match s.room with
  | some r => decide (r < (s.committed : Int))
  | none => false

/-- R98: the headroom K - R - M, absent with the plan. -/
def State.headroom (s : State) : Option Int := s.room.map (fun r => r - (s.committed : Int))

/-- The comparator's answers (R100). -/
inductive Admission where
  | granted
  | refused
  | noplan
  deriving DecidableEq, Repr

/-- R100: the answer to a request for a rise by `x`. -/
def State.admission (x : Nat) (s : State) : Admission :=
  match s.room with
  | none => .noplan
  | some r =>
    if s.overcommitted then .refused
    else if r < (s.committed : Int) + (x : Int) then .refused
    else .granted

end Sys2Proof.Machine
end

