-- ==== Sys2Proof/Machine/Governor.lean ====
section
/-!
DEFINITION. The ballast governor (02_ballast_governing.md): the work of one window completion, the overspeed override, the
bank table with its health check and bank check, and the governor's commands.
-/

namespace Sys2Proof.Machine

/-! ### Derived from the bank table (2.2) -/

/-- The banks in ascending order. -/
def bankNos : List BankNo := List.finRange 8

def Bank.isReady (b : Bank) : Bool := decide (b.state = .ready)

/-- The ratings of the Ready banks. -/
def Governor.readyRatings (g : Governor) : List Nat := (g.banks.toList.filter Bank.isReady).map Bank.rating

/-- B_cap. -/
def Governor.bCap (g : Governor) : Nat := g.readyRatings.sum

/-- r_min, absent when no bank is Ready. -/
def Governor.rMin (g : Governor) : Option Nat := g.readyRatings.min?

/-- R24: the most the carry may be: r_min - 1, or 0 when no bank is Ready. -/
def Governor.carryBound (g : Governor) : Nat :=
  match g.rMin with
  | some r => r - 1
  | none => 0

/-- Bs (R25). -/
def Governor.bs (g : Governor) : Nat := g.s / 16

def Governor.setBank (k : BankNo) (b : Bank) (g : Governor) : Governor := { g with banks := g.banks.set k b }

/-- R27: what follows every change of the Ready set. -/
def Governor.reclamp (g : Governor) : Governor :=
  { g with
    bFine := min g.bFine (1024 * g.bCap)
    carry := min g.carry g.carryBound
    b := min g.b g.bCap }

/-- R20: a post of a signed count sum. -/
def Governor.post (x : Int) (g : Governor) : Governor :=
  { g with ff := clampInt (-(Config.feedBound : Int)) (Config.feedBound : Int) (g.ff + x) }

/-! ### Health and bank check (2.7, 2.9) -/

/-- R29: the judgement of a bank whose output is off. -/
def Bank.judgeOff (sense : Bool) (b : Bank) : Bank :=
  if sense then
    (if 1 ≤ b.stuck then { b with state := .failed .stuck, stuck := 0 } else { b with stuck := b.stuck + 1 })
  else { b with stuck := 0 }

/-- R28: the judgement of a Ready bank whose output is on. -/
def Bank.judgeOn (sense : Bool) (b : Bank) : Bank :=
  if sense then { b with miss := 0, stuck := 0 }
  else if 1 ≤ b.miss then { b with state := .failed .openCircuit, miss := 0, stuck := 0 }
  else { b with miss := b.miss + 1, stuck := 0 }

/-- R28, R29: a bank judged at stage 0 by its sense sample and the output in force up to this completion. -/
def Bank.judge (on sense : Bool) (b : Bank) : Bank :=
  match b.state with
  | .ready => if on then b.judgeOn sense else Bank.judgeOff sense { b with miss := 0 }
  | .disabled => if on then { b with stuck := 0 } else b.judgeOff sense
  | .checking => if on then { b with stuck := 0 } else b.judgeOff sense
  | .absent => b
  | .failed _ => b

/-- The outputs of the eight banks. -/
def Governor.outputs (g : Governor) : Vector Bool 8 := g.banks.map Bank.on

/-- Stage 0 for every bank, before what follows a change of the Ready set. -/
def Governor.judged (prev : Vector Bool 8) (sense : BitVec 8) (g : Governor) : Governor :=
  { g with banks := Vector.ofFn (fun k : BankNo => g.banks[k].judge prev[k] (sense.getLsbD k)) }

/-- A bank of `g` is no longer in the state it had in `g0`. -/
def Governor.stateChanged (g0 g : Governor) : Bool :=
  bankNos.any (fun k => decide (g.banks[k].state ≠ g0.banks[k].state))

/-- A bank Ready in `g0` is no longer so. -/
def Governor.readyLost (g0 g : Governor) : Bool :=
  bankNos.any (fun k => g0.banks[k].isReady && !g.banks[k].isReady)

/-- R28, R29, R27: bank health at stage 0. BANK is raised once for the completion. -/
def Governor.health (prev : Vector Bool 8) (sense : BitVec 8) (g : Governor) : Governor × List Attn :=
  let g1 := g.judged prev sense
  (if Governor.readyLost g g1 then g1.reclamp else g1, if Governor.stateChanged g g1 then [.bank] else [])

/-- R35, R36: a check ends, other than by its bank failing. -/
def Governor.endCheck (k : BankNo) (r : CheckResult) (g : Governor) : Governor :=
  { g.setBank k { g.banks[k] with state := .disabled, miss := 0, stuck := 0, on := false } with
    check := none
    lastCheck := some (k, r) }

/-- R35: the check's bank has become Failed (Stuck), and stays so. -/
def Governor.failCheck (k : BankNo) (g : Governor) : Governor :=
  { g with check := none, lastCheck := some (k, .fail) }

/-- R35 at stage 0: the result of a chosen bank, or the end by a stuck failure. -/
def Governor.checkResult (sense : BitVec 8) (g : Governor) : Governor × List Attn :=
  match g.check with
  | none => (g, [])
  | some c =>
    if c.chosen then (g.endCheck c.bank (if sense.getLsbD c.bank then .pass else .fail), [.check])
    else
      match g.banks[c.bank].state with
      | .failed _ => (g.failCheck c.bank, [.check])
      | _ => (g, [])

/-- R35: the last window of a check that was never chosen is the fiftieth. -/
def checkWindows : Nat := 50

/-- R35 at stages 6 and 7: the offering is counted, or the choice marked. -/
def Governor.checkOffered (chosen : List BankNo) (g : Governor) : Governor × List Attn :=
  match g.check with
  | none => (g, [])
  | some c =>
    if chosen.contains c.bank then ({ g with check := some { c with chosen := true } }, [])
    else if checkWindows ≤ c.windows + 1 then (g.endCheck c.bank .notExercised, [.check])
    else ({ g with check := some { c with windows := c.windows + 1 } }, [])

/-! ### Selection (R24) -/

/-- Put a bank into a list in descending order of rating, after those of equal rating. -/
def insertBank (rating : BankNo → Nat) (k : BankNo) : List BankNo → List BankNo
  | [] => [k]
  | j :: js => if rating k ≤ rating j then j :: insertBank rating k js else k :: j :: js

/-- The Ready banks and the bank under check, by descending rating, equal ratings by ascending number. -/
def Governor.offered (g : Governor) : List BankNo :=
  (bankNos.filter (fun k => g.banks[k].isReady || decide (g.banks[k].state = .checking))).foldl
    (fun l k => insertBank (fun j => g.banks[j].rating) k l) []

/-- The greedy choice: the banks chosen, and the amount that remains. -/
def greedy (rating : BankNo → Nat) : List BankNo → Nat → List BankNo × Nat
  | [], left => ([], left)
  | k :: ks, left =>
    if rating k ≤ left then
      let r := greedy rating ks (left - rating k)
      (k :: r.1, r.2)
    else greedy rating ks left

/-- R24: the banks chosen for the target B + carry, and the new carry. -/
def Governor.select (g : Governor) : List BankNo × Nat :=
  match g.rMin with
  | none => ([], 0)
  | some r =>
    let c := greedy (fun j => g.banks[j].rating) g.offered (g.b + g.carry)
    (c.1, min c.2 (r - 1))

/-- Stage 7: the drive outputs are set to a selection. -/
def Governor.drive (chosen : List BankNo) (g : Governor) : Governor :=
  { g with banks := Vector.ofFn (fun k : BankNo => { g.banks[k] with on := chosen.contains k }) }

/-! ### One completion (R15) -/

/-- What a window completion carries (R9). -/
structure Completion where
  f     : Nat
  flag  : RangeFlag
  first : Bool
  deriving DecidableEq, Repr

/-- Stages 2 to 5 (R20 to R23). -/
def Governor.control (f fset : Int) (first : Bool) (g : Governor) : Governor :=
  let e := f - fset
  let ePrev := if first || g.reseed then e else g.ePrev
  let x := (g.bFine : Int) + 1024 * g.ff + (g.kp : Int) * (e - ePrev) + (g.ki : Int) * e
  let bFine := (clampInt 0 (1024 * (g.bCap : Int)) x).toNat
  { g with bFine := bFine, b := bFine / 1024, ff := 0, ePrev := e, reseed := false }

/-- Stages 6 to 8 (R24, R16, R35, R25). -/
def Governor.command (g : Governor) : Governor × List Attn :=
  let sel := g.select
  let r := Governor.checkOffered sel.1 ({ g with carry := sel.2 }.drive sel.1)
  ({ r.1 with s := g.s + g.b - g.s / 16 }, r.2)

/-- R17, R18: full ballast on the Ready banks; pending feed-forward is discarded. -/
def Governor.fullBallast (g : Governor) : Governor :=
  { g with
    bFine := 1024 * g.bCap
    b := g.bCap
    ff := 0
    banks := g.banks.map (fun b => { b with on := b.isReady }) }

/-- R18, R36: trip onset. A running check ends NotExercised. -/
def Governor.tripOnset (g : Governor) : Governor × List Attn :=
  match g.check with
  | some c => ((g.endCheck c.bank .notExercised).fullBallast, [.check])
  | none => (g.fullBallast, [])

/-- R15: the governor takes a window completion. `prev` are the outputs in force up to the completion (R16). -/
def Governor.take (trip : Bool) (fset : Int) (prev : Vector Bool 8) (sense : BitVec 8) (c : Completion)
    (g : Governor) : Governor × List Attn :=
  let h := g.health prev sense
  if trip then (h.1.fullBallast, h.2)
  else
    let k := h.1.checkResult sense
    let r := (k.1.control (c.f : Int) fset c.first).command
    (r.1, h.2 ++ k.2 ++ r.2)

def State.raiseAll (l : List Attn) (s : State) : State := l.foldl (fun s a => s.raise a) s

/-- The governor as a receiver of a completion (R9). -/
def State.governorTake (prev : Vector Bool 8) (sense : BitVec 8) (c : Completion) (s : State) : State :=
  let r := s.gov.take s.prot.trip s.fset prev sense c
  { s with gov := r.1 }.raiseAll r.2

/-- R20: a block posts feed-forward. -/
def State.postFeed (x : Int) (s : State) : State := { s with gov := s.gov.post x }

/-! ### Bank failures and the end of a check as steps of their own (R28, R29, R35; DESIGN CHOICE, logs 6 and 7) -/

/-- R28: bank k, Ready, on and already dark at the completion before, is dark again. -/
def State.bankFailedOpen (k : BankNo) (s : State) : State :=
  let b := s.gov.banks[k]
  if b.isReady && b.on && decide (b.miss = 1) then
    ({ s with gov := (s.gov.setBank k { b with
        state := .failed .openCircuit, miss := 0, stuck := 0, on := false }).reclamp }).raise .bank
  else s

/-- R29: bank k, off and already live at the completion before, shows current again. -/
def State.bankFailedStuck (k : BankNo) (s : State) : State :=
  let b := s.gov.banks[k]
  let g := s.gov.setBank k { b with state := .failed .stuck, stuck := 0 }
  if !b.on && decide (b.stuck = 1) then
    match b.state with
    | .ready => ({ s with gov := g.reclamp }).raise .bank
    | .disabled => ({ s with gov := g }).raise .bank
    | .checking => (({ s with gov := g.failCheck k }).raise .bank).raise .check
    | .absent => s
    | .failed _ => s
  else s

/-- R35: the fiftieth completion at which the bank under check is not chosen. -/
def State.checkExhausted (s : State) : State :=
  match s.gov.check with
  | some c =>
    if !c.chosen && decide (checkWindows ≤ c.windows + 1) then
      ({ s with gov := s.gov.endCheck c.bank .notExercised }).raise .check
    else s
  | none => s

def execBankFailedOpen (k : BankNo) (s : State) : Host.Outcome State Fault Refusal :=
  live (State.bankFailedOpen k) s

def execBankFailedStuck (k : BankNo) (s : State) : Host.Outcome State Fault Refusal :=
  live (State.bankFailedStuck k) s

def execCheckWindowsExhausted (s : State) : Host.Outcome State Fault Refusal := live State.checkExhausted s

/-! ### Bank commands (2.8, 2.9) -/

/-- R30. -/
def Governor.disable (k : BankNo) (g : Governor) : Governor × Result :=
  let b := g.banks[k]
  match b.state with
  | .ready => ((g.setBank k { b with state := .disabled, miss := 0, stuck := 0, on := false }).reclamp, .done)
  | .disabled => (g, .done)
  | .absent => (g, .state)
  | .failed _ => (g, .state)
  | .checking => (g, .state)

/-- R31. -/
def Governor.enable (trip : Bool) (k : BankNo) (g : Governor) : Governor × Result :=
  let b := g.banks[k]
  if trip then (g, .state)
  else
    match b.state with
    | .disabled => ((g.setBank k { b with state := .ready }).reclamp, .done)
    | .ready => (g, .done)
    | .absent => (g, .state)
    | .failed _ => (g, .state)
    | .checking => (g, .state)

/-- R32. -/
def Governor.restoreBank (trip : Bool) (k : BankNo) (g : Governor) : Governor × Result :=
  let b := g.banks[k]
  if trip then (g, .state)
  else
    match b.state with
    | .failed _ => ((g.setBank k { b with state := .ready, miss := 0, stuck := 0 }).reclamp, .done)
    | .ready => (g, .state)
    | .disabled => (g, .state)
    | .absent => (g, .state)
    | .checking => (g, .state)

/-- R34, after the check of k. -/
def Governor.startCheck (trip : Bool) (k : BankNo) (g : Governor) : Governor × Result :=
  let b := g.banks[k]
  if b.state ≠ .disabled then (g, .state)
  else if trip then (g, .state)
  else if g.check.isSome then (g, .state)
  else ({ g.setBank k { b with state := .checking } with check := some ⟨k, 0, false⟩ }, .started)

/-- R33: the table with new ratings. A bank that becomes Absent is switched off; the others keep their outputs. -/
def Governor.rerate (ratings : Vector Half 8) (g : Governor) : Governor :=
  { g with banks := Vector.ofFn (fun k : BankNo =>
      Bank.atReset ratings[k].toNat (g.banks[k].on && decide (ratings[k].toNat ≠ 0))) }.reclamp

/-- R33: the three checks in their order. -/
def Governor.setRatings (lock trip : Bool) (ratings : Vector Half 8) (g : Governor) : Governor × Result :=
  if lock then (g, .locked)
  else if ratings.any (fun r => decide (2000 < r.toNat)) then (g, .range)
  else if trip || g.check.isSome then (g, .state)
  else (g.rerate ratings, .done)

/-- A bank command: RANGE for a bank outside 0 to 7, else an operation on the governor. -/
def bankCommand (bank : Byte) (f : State → BankNo → Governor × Result) (s : State) : State × Reply :=
  match bankOf bank with
  | none => (s, .plain .range)
  | some k => ({ s with gov := (f s k).1 }, .plain (f s k).2)

def execBankDisable (bank : Byte) (s : State) : Host.Outcome State Fault Refusal :=
  command 0x12 promptBound (bankCommand bank (fun s k => s.gov.disable k)) s

def execBankEnable (bank : Byte) (s : State) : Host.Outcome State Fault Refusal :=
  command 0x13 promptBound (bankCommand bank (fun s k => s.gov.enable s.prot.trip k)) s

def execBankReturn (bank : Byte) (s : State) : Host.Outcome State Fault Refusal :=
  command 0x14 promptBound (bankCommand bank (fun s k => s.gov.restoreBank s.prot.trip k)) s

def execBankCheck (bank : Byte) (s : State) : Host.Outcome State Fault Refusal :=
  command 0x15 promptBound (bankCommand bank (fun s k => s.gov.startCheck s.prot.trip k)) s

def execBankRatings (ratings : Vector Half 8) (s : State) : Host.Outcome State Fault Refusal :=
  command 0x16 promptBound (fun s =>
    let r := s.gov.setRatings s.prot.lock s.prot.trip ratings
    ({ s with gov := r.1 }, .plain r.2)) s

/-- R37: both gains are clamped to 0 to 4,095, FFFFh as 65,535 (DESIGN CHOICE, log 53). -/
def execGainSet (kp ki : Half) (s : State) : Host.Outcome State Fault Refusal :=
  command 0x11 promptBound (fun s =>
    ({ s with gov := { s.gov with kp := min kp.toNat 4095, ki := min ki.toNat 4095 } }, .plain .done)) s

def execGovernorRead (s : State) : Host.Outcome State Fault Refusal :=
  command 0x10 promptBound (fun s => (s, .reading .governor)) s

end Sys2Proof.Machine
end

