-- ==== Sys2Proof/Machine/Saw.lean ====
section
/-!
DEFINITION. The saw permit unit's sequence (09_sawmill_drive_permit.md): the latch, the debouncer, the clutch edges with their
feed-forward, shed orders and the surplus test.
-/

namespace Sys2Proof.Machine

/-- R156: SAW_LATCH is energised exactly while the saw state is Released or Cutting. -/
def Saw.latch (w : Saw) : Bool :=
  match w.state with
  | .released => true
  | .cutting => true
  | .idle => false
  | .waiting => false
  | .preparing => false
  | .closing => false
  | .fault => false

/-- The entry into Idle gives the reservation back (R158). -/
def Saw.toIdle (w : Saw) : Saw :=
  { w with state := .idle, draw := none, reserved := 0, waiting := none, preparing := none, idle := none, stuck := none }

/-- R163: entry to Closing; with the clutch Disengaged the unit enters Idle within the same event. -/
def Saw.toClosing (w : Saw) : Saw :=
  if w.clutch then
    { w with state := .closing, waiting := none, preparing := none, idle := none, stuck := some Config.stuckTime }
  else w.toIdle

/-- R160: a grant. -/
def Saw.grant (d : Nat) (w : Saw) : Saw :=
  { w with state := .preparing, draw := some d, reserved := d, waiting := none, preparing := some Config.preparingTime }

/-- R166, and R165 but for its record: the permit is withdrawn. -/
def Saw.withdraw (w : Saw) : Saw :=
  match w.state with
  | .waiting => w.toIdle
  | .preparing => w.toIdle
  | .released => w.toClosing
  | .cutting => w.toClosing
  | .idle => w
  | .closing => w
  | .fault => w

/-- R165, R172: the states in which a shed order acts, and in which protection counts the saw. -/
def Saw.hasPermit (w : Saw) : Bool :=
  match w.state with
  | .waiting => true
  | .preparing => true
  | .released => true
  | .cutting => true
  | .idle => false
  | .closing => false
  | .fault => false

/-- R165: a shed order. -/
def State.sawShedOrder (s : State) : State :=
  if s.saw.hasPermit then
    ({ s with saw := { s.saw.withdraw with lastEvent := some .shed } }).raise .saw
  else s

/-- R161: the margin of surplus over D. -/
def surplusMargin : Nat := 50

/-- R161: the surplus test at a completion. -/
def Saw.surplusTest (bs : Nat) (w : Saw) : Saw :=
  match w.state, w.draw with
  | .preparing, some d =>
    if d + surplusMargin ≤ bs then
      { w with state := .released, preparing := none, idle := some Config.idleTime }
    else w
  | _, _ => w

/-- The saw permit unit as a receiver of a completion (R9, R161). -/
def State.sawTake (s : State) : State := { s with saw := s.saw.surplusTest s.gov.bs }

/-- R164 step 2: the reservation of an engagement the unit did not release. -/
def Saw.unreleasedDraw (w : Saw) : Nat := max w.reserved (w.draw.getD w.nominal)

/-- R164: an unreleased engagement; the clutch state is Engaged already. -/
def State.unreleased (s : State) : State :=
  let d := s.saw.unreleasedDraw
  let w := { s.saw with reserved := d, engaged := d, lastEvent := some .unreleased }
  (State.postFeed (-(d : Int)) { s with saw := w.toClosing }).raise .saw

/-- R159, R162, R164: an engage edge. -/
def State.engageEdge (s : State) : State :=
  let s1 := { s with saw := { s.saw with clutch := true } }
  match s1.saw.state with
  | .released =>
    State.postFeed (-(s1.saw.reserved : Int))
      { s1 with saw := { s1.saw with state := .cutting, idle := none, engaged := s1.saw.reserved } }
  | .idle => s1.unreleased
  | .waiting => s1.unreleased
  | .preparing => s1.unreleased
  | .cutting => s1
  | .closing => s1
  | .fault => s1

/-- R159: the engaged draw is posted back and set to 0. -/
def State.giveBack (s : State) : State :=
  State.postFeed (s.saw.engaged : Int) { s with saw := { s.saw with engaged := 0 } }

/-- R162, R163: a disengage edge. -/
def State.disengageEdge (s : State) : State :=
  let s1 := ({ s with saw := { s.saw with clutch := false } }).giveBack
  match s1.saw.state with
  | .cutting => { s1 with saw := { s1.saw with state := .released, idle := some Config.idleTime } }
  | .closing => { s1 with saw := s1.saw.toIdle }
  | .fault => ({ s1 with saw := { s1.saw.toIdle with lastEvent := some .clutchFreed } }).raise .saw
  | .idle => s1
  | .waiting => s1
  | .preparing => s1
  | .released => s1

/-- R157: the debounce timer runs out: the clutch state takes the raw level, and the edge is taken. -/
def State.debounceOver (s : State) : State :=
  match s.saw.debounce with
  | none => s
  | some _ =>
    let s1 := { s with saw := { s.saw with debounce := none } }
    if s.saw.raw = s.saw.clutch then s1
    else if s.saw.raw then s1.engageEdge
    else s1.disengageEdge

/-- R157: the debouncer compares the raw level with the clutch state. -/
def Saw.setRaw (level : Bool) (w : Saw) : Saw :=
  if level = w.raw then w
  else { w with raw := level, debounce := if level = w.clutch then none else some Config.debounceTime }

/-- The unit returns to Idle of its own accord, with a last saw event and SAW (R160, R161). -/
def State.sawGivesUp (e : SawEvent) (s : State) : State :=
  ({ s with saw := { s.saw.toIdle with lastEvent := some e } }).raise .saw

end Sys2Proof.Machine
end

