-- ==== Sys2Proof/Machine/Water.lean ====
section
/-!
DEFINITION. The water plan (04_water_plan_and_pond_level.md): choosing and moving the band in force, and the level source. What an
event hands over (LEVEL, the capacity event, the ceiling event: R65, R66) is derived at the event's end, in Settle.lean.
-/

namespace Sys2Proof.Machine

/-- R62: the upward margin in mm. -/
def upMargin : Nat := 20

/-- R62, Up: while the level passes the next threshold by the margin, the band rises. The fuel is the number of bands. -/
def bandUp (p : WaterPlan) (level : Nat) : Nat → Nat → Nat
  | 0, b => b
  | k + 1, b =>
    if decide (b < p.bands.length) && decide ((p.band (b + 1)).threshold + upMargin ≤ level) then
      bandUp p level k (b + 1)
    else b

/-- R62, Down: while the level lies below the band's threshold, the band falls, never below band 1. -/
def bandDown (p : WaterPlan) (level : Nat) : Nat → Nat → Nat
  | 0, b => b
  | k + 1, b =>
    if decide (1 < b) && decide (level < (p.band b).threshold) then bandDown p level k (b - 1) else b

/-- R62: the band in force after a level. -/
def WaterPlan.follow (level : Nat) (p : WaterPlan) : WaterPlan :=
  let n := p.bands.length
  { p with inForce := bandDown p level n (bandUp p level n p.inForce) }

/-- R59: the highest band whose threshold is at most a level. -/
def highestBand (bands : List Band) (level : Nat) : Nat :=
  max 1 (bands.filter (fun b => decide (b.threshold ≤ level))).length

/-- R59: the band in force of a table just loaded. -/
def Water.choose (bands : List Band) (w : Water) : Nat :=
  match w.source with
  | .live => highestBand bands (w.level.getD 0)
  | .holding => highestBand bands (w.level.getD 0)
  | .absent => 1
  | .waiting => 1
  | .lost => 1

/-- R58: an accepted table replaces the old one whole. -/
def Water.load (bands : List Band) (w : Water) : Water := { w with plan := some ⟨bands, w.choose bands⟩ }

/-- Band 1 comes into force where a plan is present (R60, R64, R68). -/
def Water.toBandOne (w : Water) : Water := { w with plan := w.plan.map (fun p => { p with inForce := 1 }) }

/-- R60: the Gauge record appears. -/
def Water.gaugeAppears (w : Water) : Water := { w with source := .waiting, level := none, hold := none }

/-- R60: the Gauge record becomes Vacant. -/
def Water.gaugeGone (w : Water) : Water := { w.toBandOne with source := .absent, level := none, hold := none }

/-- R61: a level is received. -/
def Water.receive (level : Nat) (w : Water) : Water :=
  let l := min level 4000
  { w with level := some l, source := .live, hold := none, plan := w.plan.map (WaterPlan.follow l) }

/-- R63: the Gauge record is made Silent. -/
def Water.gaugeSilent (w : Water) : Water :=
  match w.source with
  | .live => { w with source := .holding, hold := some Config.holdTime }
  | .absent => w
  | .waiting => w
  | .holding => w
  | .lost => w

/-- R64: the hold timer runs out. -/
def Water.holdOver (w : Water) : Water :=
  match w.source with
  | .holding => { w.toBandOne with source := .lost, hold := none }
  | .absent => w
  | .waiting => w
  | .live => w
  | .lost => w

end Sys2Proof.Machine
end

