-- ==== Sys2Proof/Machine/Table.lean ====
section
/-!
DEFINITION. The station table's changes of records (05_the_station_table.md): conditions, sheds and restores, replies and
misses, retirement with its mute errand, and the errand queue's places (R140).
-/

namespace Sys2Proof.Machine

/-! ### The errand queue (R140) -/

def Errand.serial : Errand → Serial
  | .assign x _ _ _ => x
  | .mute x => x

def Errand.isMute : Errand → Bool
  | .mute _ => true
  | .assign _ _ _ _ => false

/-- The queue holds an errand for a serial. -/
def Engine.hasErrand (e : Engine) (x : Serial) : Bool := e.errands.any (fun r => decide (r.serial = x))

/-- The queue holds a MUTE for a serial. -/
def Engine.hasMute (e : Engine) (x : Serial) : Bool := e.errands.any (fun r => r.isMute && decide (r.serial = x))

/-- The queue has a free place (R139). -/
def Engine.errandRoom (e : Engine) : Bool := decide (e.errands.length < Config.errandPlaces)

/-- A new errand joins as the newest entry. -/
def Engine.addErrand (r : Errand) (e : Engine) : Engine := { e with errands := e.errands ++ [r] }

/-- An errand takes the place of those held for its serial. -/
def Engine.replaceErrand (r : Errand) (e : Engine) : Engine :=
  { e with errands := e.errands.map (fun q => if q.serial = r.serial then r else q) }

def State.withEngine (s : State) (f : Engine → Engine) : State := { s with engine := f s.engine }

/-- The turn in flight is the ASSIGN of a serial. -/
def State.assignInFlight (s : State) (x : Serial) : Bool :=
  match s.port.turn with
  | some ⟨.assign y _, _, false⟩ => decide (y = x)
  | _ => false

/-- R85: a MUTE for a serial joins the queue when it has room and holds no errand for that serial. -/
def State.placeMute (x : Serial) (s : State) : State :=
  if s.engine.errandRoom && !s.engine.hasErrand x then s.withEngine (Engine.addErrand (.mute x)) else s

/-! ### Retirement (R83) -/

def State.setMute (n : Slot) (m : MuteErrand) (s : State) : State :=
  match s.station n with
  | some st => s.setStation n { st with mute := m }
  | none => s

/-- R83, Placing the errand: what is done with a Wanted record. -/
def State.placeWantedMute (n : Slot) (s : State) : State :=
  match s.station n with
  | none => s
  | some st =>
    if s.engine.hasMute st.serial then s.setMute n .queued
    else if s.engine.hasErrand st.serial then
      if s.assignInFlight st.serial then s
      else (s.withEngine (Engine.replaceErrand (.mute st.serial))).setMute n .queued
    else if s.engine.errandRoom then (s.withEngine (Engine.addErrand (.mute st.serial))).setMute n .queued
    else s

/-- R83: a record that has become ready is Wanted, and its errand is placed as room allows. -/
def State.wantMute (n : Slot) (s : State) : State := (s.setMute n .wanted).placeWantedMute n

/-- R83: at an event that frees a place in the errand queue, the lowest-slot Wanted record is dealt with. -/
def State.placeFreed (s : State) : State :=
  match slots.find? (fun n =>
      match s.station n with
      | some st => decide (st.mute = .wanted)
      | none => false) with
  | some n => s.placeWantedMute n
  | none => s

/-- R83: a Retiring Service record is ready when its acknowledged breaker is open, its acknowledged limit is 0 and push
pending is clear. -/
def Station.ready (st : Station) : Bool :=
  decide (st.life = .retiring) && !st.pushPending &&
    (match st.service with
      | some sv =>
        match sv.ack with
        | some a => !a.closed && decide (a.limit = 0)
        | none => false
      | none => false)

/-- R83: the readiness test, at a report and at the RETIRE. -/
def State.readyTest (n : Slot) (s : State) : State :=
  match s.station n with
  | some st => if st.ready && decide (st.mute = .idle) then s.wantMute n else s
  | none => s

/-- A record becomes Vacant and keeps its changed flag; for a Gauge record the level source passes to None (R69, R60). -/
def State.vacate (n : Slot) (s : State) : State :=
  match s.station n with
  | none => s
  | some st =>
    let s1 := s.setRecord n { s.record n with station := none }
    match st.service with
    | some _ => s1
    | none => { s1 with water := s1.water.gaugeGone }

/-- R83, R143: the sent event of a MUTE makes the Retiring record holding that serial Vacant, and sets its changed flag
(DEDUCED, log 31). -/
def State.muteSent (x : Serial) (s : State) : State :=
  match s.holder x with
  | some n =>
    match s.station n with
    | some st => if st.life = .retiring then (s.vacate n).markChanged n else s
    | none => s
  | none => s

/-! ### Conditions (R72, R92, R93) -/

/-- R72: a record that would become Connected with a target limit below 10 becomes Off instead. -/
def Service.connect (sv : Service) : Service :=
  { sv with condition := if sv.limit < Config.leastLimit then .off else .connected }

/-- R92: the condition a shed request gives. `freq` names the Frequency flag, else the Capacity flag. -/
def Service.shedBy (freq : Bool) (sv : Service) : Option Condition :=
  if sv.cls = 0 then none
  else
    match sv.condition with
    | .connected => some (if freq then .shed (some (sv.demand.getD 0)) false else .shed none true)
    | .shed d c => some (if freq then .shed (some (sv.demand.getD 0)) c else .shed d true)
    | .off => none
    | .tripped _ => none
    | .isolated _ => none

/-- R92: a shed request. -/
def State.shedRequest (freq : Bool) (n : Slot) (s : State) : State :=
  match s.onLineService n with
  | some (st, sv) =>
    match sv.shedBy freq with
    | some c => (s.setService n st { sv with condition := c }).markChanged n
    | none => s
  | none => s

/-- R93, Reclose: Tripped with reclose due becomes Connected. -/
def State.reclose (n : Slot) (s : State) : State :=
  match s.enrolledService n with
  | some (st, sv) =>
    match sv.condition with
    | .tripped none => (s.setService n st sv.connect).markChanged n
    | _ => s
  | none => s

/-- R93, Frequency restore: the Frequency flag and demand-at-shed are removed. With the Capacity flag the record stays Shed;
alone, an admitted record becomes Connected and a refused one holds the Capacity flag. -/
def State.frequencyRestore (admitted : Bool) (n : Slot) (s : State) : State :=
  match s.enrolledService n with
  | some (st, sv) =>
    match sv.condition with
    | .shed (some _) true => (s.setService n st { sv with condition := .shed none true }).markChanged n
    | .shed (some _) false =>
      if admitted then (s.setService n st sv.connect).markChanged n
      else (s.setService n st { sv with condition := .shed none true }).markChanged n
    | _ => s
  | none => s

/-- R93, Capacity restore: Shed with the Capacity flag alone becomes Connected. -/
def State.capacityRestore (n : Slot) (s : State) : State :=
  match s.enrolledService n with
  | some (st, sv) =>
    match sv.condition with
    | .shed none true => (s.setService n st sv.connect).markChanged n
    | _ => s
  | none => s

/-! ### Replies from the line (R84 to R89) -/

/-- The content of a REPORT (R123). -/
inductive Content where
  | service (settings : Settings) (demand : Nat) (trip : Option TripReason)
  | gauge (level : Nat)
  deriving DecidableEq, Repr

/-- R86 step 1: the record has been answered. -/
def State.linkAnswered (n : Slot) (s : State) : State :=
  match s.station n with
  | some st =>
    let s1 := s.setStation n { st with
      missed := 0
      silence := none
      service := st.service.map (fun sv => { sv with pushDeferred := false }) }
    if st.silence.isSome then s1.markChanged n else s1
  | none => s

/-- R89: the condition a new trip gives, by its reason and the trip count before. -/
def tripCondition (reason : TripReason) (count : Bool) : Condition :=
  match reason with
  | .leakage => .isolated .leakage
  | .overcurrent => if count then .isolated .overcurrent else .tripped (some Config.recloseTime)

/-- R89: the trip count after. -/
def tripCountAfter (reason : TripReason) (count : Bool) : Bool :=
  match reason with
  | .leakage => count
  | .overcurrent => true

def Condition.isTrip : Condition → Bool
  | .tripped _ => true
  | .isolated _ => true
  | .off => false
  | .connected => false
  | .shed _ _ => false

/-- The acknowledged breaker is closed. -/
def Service.ackClosed (sv : Service) : Bool :=
  match sv.ack with
  | some a => a.closed
  | none => false

/-- R89: a trip indication is a new trip where the record is Enrolled, not Tripped or Isolated, and its acknowledged breaker
before the reply was closed. -/
def State.tripIndication (n : Slot) (reason : TripReason) (s : State) : State :=
  match s.enrolledService n with
  | some (st, sv) =>
    if !sv.condition.isTrip && sv.ackClosed then
      (s.setService n st { sv with
        condition := tripCondition reason sv.tripCount
        tripCount := tripCountAfter reason sv.tripCount
        live := 0 }).markChanged n
    else s
  | none => s

/-- R86: the demand stored is at most 4,095. -/
def demandBound : Nat := 4095

/-- R86 steps 3 and 4. -/
def State.acknowledge (n : Slot) (a : Settings) (demand : Nat) (s : State) : State :=
  match s.onLineService n with
  | some (st, sv) => s.setService n st { sv with ack := some a, demand := some (min demand demandBound) }
  | none => s

/-- R86: a REPORT from a Service station; it is discarded where the record is not an Enrolled or Retiring Service record. -/
def State.serviceReport (n : Slot) (a : Settings) (demand : Nat) (trip : Option TripReason) (s : State) : State :=
  match s.onLineService n with
  | none => s
  | some _ =>
    let s1 := s.linkAnswered n
    let s2 :=
      match trip with
      | some r => s1.tripIndication n r
      | none => s1
    (s2.acknowledge n a demand).readyTest n

/-- R87: a REPORT from the Gauge station. -/
def State.gaugeReport (n : Slot) (level : Nat) (s : State) : State :=
  match s.station n with
  | some st =>
    if st.onLine && decide (st.kind = .gauge) then
      let s1 := s.linkAnswered n
      { s1 with water := s1.water.receive level }
    else s
  | none => s

/-- R86, R87: the content of a valid REPORT. -/
def State.report (n : Slot) (c : Content) (s : State) : State :=
  match c with
  | .service a d t => s.serviceReport n a d t
  | .gauge l => s.gaugeReport n l

/-- R84 step 3: the condition at enrollment, but for the admission of a connect-on-enrol record. -/
def enrolCondition (sv : Service) (closed : Bool) (trip : Option TripReason) : Condition :=
  match trip with
  | some .leakage => .isolated .leakage
  | some .overcurrent => .tripped (some Config.recloseTime)
  | none => if closed && decide (Config.leastLimit ≤ sv.limit) then .connected else .off

/-- R84 step 3: the case in which admission is asked. Its refusal makes a record of any class Shed, class 0 too (DEDUCED, log
39). -/
def enrolAsks (sv : Service) (closed : Bool) (trip : Option TripReason) : Bool :=
  trip.isNone && !closed && sv.connectOnEnrol && decide (Config.leastLimit ≤ sv.limit)

/-- R84: a TAKE enrols the Provisioned record of its slot. Content of the other kind is discarded (DESIGN CHOICE, log 43). -/
def State.enrol (n : Slot) (st : Station) (c : Content) (s : State) : State :=
  let base := { st with life := .enrolled, missed := 0, silence := none, mute := .idle }
  match st.service, c with
  | some sv, .service a demand trip =>
    let sv1 := { sv with
      ack := some a
      demand := some (min demand demandBound)
      condition := enrolCondition sv a.closed trip
      tripCount := decide (trip = some .overcurrent)
      live := 0
      pushDeferred := false }
    let s1 := s.setService n base sv1
    let s2 :=
      if enrolAsks sv a.closed trip then
        s1.setService n base { sv1 with
          condition := if s1.admission sv.limit = .granted then .connected else .shed none true }
      else s1
    s2.markChanged n
  | none, .gauge level =>
    let s1 := (s.setStation n base).markChanged n
    { s1 with water := s1.water.receive level }
  | _, _ => s

/-- R84, R85: the content of a valid TAKE of serial x and the number of slot n: an enrollment, a rejoin, or unmatched. -/
def State.takeReply (x : Serial) (n : Slot) (c : Content) (s : State) : State :=
  match s.station n with
  | some st =>
    if st.serial = x then
      match st.life with
      | .provisioned => s.enrol n st c
      | .enrolled => s.report n c
      | .retiring => s.report n c
    else s.placeMute x
  | none => s.placeMute x

/-- R88: the link of an Answering record becomes Silent. -/
def State.makeSilent (n : Slot) (s : State) : State :=
  match s.station n with
  | some st =>
    let s1 := (s.setStation n { st with missed := 3, silence := some 0 }).markChanged n
    match st.service with
    | some _ => s1
    | none => { s1 with water := s1.water.gaugeSilent }
  | none => s

/-- R88: an ORDER that went unanswered sets push deferred. -/
def State.deferPush (n : Slot) (s : State) : State :=
  match s.onLineService n with
  | some (st, sv) => s.setService n st { sv with pushDeferred := true }
  | none => s

/-- R88: a missed reply to a QUERY or an ORDER. -/
def State.missedReply (n : Slot) (order : Bool) (s : State) : State :=
  match s.station n with
  | some st =>
    if st.onLine then
      let s1 :=
        if st.silence.isNone && decide (2 ≤ st.missed) then s.makeSilent n
        else s.setStation n { st with missed := min 3 (st.missed + 1) }
      if order then s1.deferPush n else s1
    else s
  | none => s

end Sys2Proof.Machine
end

