-- ==== Sys2Proof/Machine/Account.lean ====
section
/-!
DEFINITION. The supply account's own stages (06_the_supply_account.md): the curtailment pass, Balanced and Over, the Apply with
its marks, and the branches of the restore tick.
-/

namespace Sys2Proof.Machine

/-! ### Curtailment (R108 to R110) -/

/-- R109: the records a pass names in class c: Connected, or Shed with the Frequency flag alone. -/
def curtailed (c : Nat) (sv : Service) : Bool :=
  decide (sv.cls = c) &&
    (match sv.condition with
      | .connected => true
      | .shed (some _) false => true
      | .shed (some _) true => false
      | .shed none _ => false
      | .off => false
      | .tripped _ => false
      | .isolated _ => false)

/-- R109: class c is shed whole, the saw with it. -/
def State.curtailClass (c : Nat) (s : State) : State :=
  let s1 := slots.foldl (fun t n =>
    match t.onLineService n with
    | some (_, sv) => if curtailed c sv then t.shedRequest false n else t
    | none => t) s
  if s1.saw.cls = c then s1.sawShedOrder else s1

/-- P > K - R. -/
def State.short (s : State) : Bool :=
  match s.room with
  | some r => decide (r < (s.intended : Int))
  | none => false

/-- R110: a pass that ends with P > K - R. -/
def State.markUnresolvable (s : State) : State :=
  if s.account.unresolvable then s
  else ({ s with account := { s.account with unresolvable := true } }).raise .account

/-- R109: the curtailment pass. -/
def State.curtail (s : State) : State :=
  let s1 := [3, 2, 1].foldl (fun t c => if t.short then t.curtailClass c else t) s
  if s1.short then s1.markUnresolvable else s1

/-- R99: Over passes to Balanced, unresolvable is cleared. -/
def State.toBalanced (s : State) : State :=
  { s with account := { s.account with isOver := false, unresolvable := false } }

/-- R99: an entry into Over. -/
def State.enterOver (s : State) : State :=
  ((State.raise .account
      { s with account := { s.account with isOver := true, unresolvable := false } }).curtail)

/-- R99: the account state is derived afresh. A pass that gives the saw's reservation back may leave the account Balanced. -/
def State.rederive (s : State) : State :=
  if s.overcommitted then
    if s.account.isOver then s
    else
      let s1 := s.enterOver
      if s1.overcommitted then s1 else s1.toBalanced
  else if s.account.isOver then s.toBalanced
  else s

/-! ### Apply (R102 to R106) -/

/-- R102: a record is in an APPLY's scope. -/
def Scope.covers (sc : Scope) (n : Slot) (sv : Service) : Bool :=
  match sc with
  | .slot m => decide (m = n)
  | .cls c => decide (sv.cls = c)
  | .all => true

/-- A record taken by an Apply: the slot's new Service fields, and whether a raise was deferred (R103). -/
def State.applyPlan (st : Station) (sv : Service) (p : Staged) (s : State) : Service × Bool :=
  let copied := { sv with limit := p.limit, cls := p.cls, staged := none }
  if !st.targetClosed then (copied, false)
  else if p.limit ≤ sv.limit then
    (if p.limit < Config.leastLimit then { copied with condition := .off } else copied, false)
  else if s.admission (p.limit - sv.limit) = .granted then (copied, false)
  else ({ sv with cls := p.cls, staged := some { p with deferred := true } }, true)

/-- R72, R94: an Apply made a Connected record Off. -/
def madeOff (before after : Service) : Bool :=
  decide (before.condition = .connected) && decide (after.condition = .off)

/-- R103, R104: one slot is taken. The accumulator holds the state, the working set so far, and the deferred count. -/
def applySlot (sc : Scope) (acc : State × List Slot × Nat) (n : Slot) : State × List Slot × Nat :=
  let s := acc.1
  match s.station n with
  | none => acc
  | some st =>
    match st.service with
    | none => acc
    | some sv =>
      match sv.staged with
      | none => acc
      | some p =>
        if sc.covers n sv && decide (st.life ≠ .retiring) then
          let r := s.applyPlan st sv p
          let s1 := s.setService n st r.1
          let s2 := if madeOff sv r.1 then s1.markChanged n else s1
          let same := ({ st with service := some r.1 } : Station).target r.1 = st.target sv
          (s2, if same then acc.2.1 else acc.2.1 ++ [n], if r.2 then acc.2.2 + 1 else acc.2.2)
        else acc

/-- R103: the records in scope are taken in ascending slot order. -/
def State.applyAll (sc : Scope) (s : State) : State × List Slot × Nat := slots.foldl (applySlot sc) (s, [], 0)

/-- R105: the mark of a slot by its record. -/
def markOf (r : Record) : Mark :=
  match r.station with
  | none => .unconfirmed
  | some st =>
    match st.life with
    | .provisioned => .unconfirmed
    | .retiring => .unconfirmed
    | .enrolled =>
      if !st.pushPending then .confirmed
      else if st.silence.isSome then .unconfirmed
      else .pending

/-- R105: a slot keeps the first mark it receives. -/
def State.reMark (s : State) (m : Slot × Mark) : Slot × Mark :=
  match m.2 with
  | .pending => (m.1, markOf (s.record m.1))
  | .confirmed => m
  | .unconfirmed => m

def Apply.count (a : Apply) (m : Mark) : Nat := (a.marks.filter (fun x => decide (x.2 = m))).length

/-- R106: the Apply completes. -/
def State.completeApply (a : Apply) (s : State) : State :=
  ({ s with account := { s.account with
      last := some ⟨a.marks.length, a.deferred, a.count .unconfirmed⟩
      apply := none } }).raise .apply

/-- R106: an Apply none of whose slots is Pending completes. -/
def State.applyDone (s : State) : State :=
  match s.account.apply with
  | some a => if a.count .pending = 0 then s.completeApply a else s
  | none => s

/-- R105, R106: the Pending slots of the Apply in flight are examined. -/
def State.examineApply (s : State) : State :=
  match s.account.apply with
  | some a =>
    State.applyDone { s with account := { s.account with apply := some { a with marks := a.marks.map s.reMark } } }
  | none => s

/-! ### The restore tick (R111 to R115) -/

/-- R112: the lowest-slot Enrolled Service record that is Tripped with reclose due. -/
def State.recloseCandidate (s : State) : Option Slot :=
  slots.find? (fun n =>
    match s.enrolledService n with
    | some (_, sv) => decide (sv.condition = .tripped none)
    | none => false)

/-- The Enrolled Service records in restore order: target class 0, 1, 2, 3, and within a class by ascending slot (R113). -/
def State.restoreOrder (s : State) : List (Slot × Service) :=
  [0, 1, 2, 3].flatMap (fun c => slots.filterMap (fun n =>
    match s.enrolledService n with
    | some (_, sv) => if sv.cls = c then some (n, sv) else none
    | none => none))

/-- R113: the margin of Bs over demand-at-shed. -/
def restoreMargin : Nat := 100

/-- R113: Shed with the Frequency flag, and Bs can carry the former demand with the margin. -/
def frequencyReady (bs : Nat) (sv : Service) : Bool :=
  match sv.condition with
  | .shed (some d) _ => decide (d + restoreMargin ≤ bs)
  | .shed none _ => false
  | .off => false
  | .connected => false
  | .tripped _ => false
  | .isolated _ => false

/-- R114: Shed with the Capacity flag alone. -/
def capacityShed (sv : Service) : Bool := decide (sv.condition = .shed none true)

/-- R112: the reclose branch; none where it takes no action. -/
def State.recloseBranch (s : State) : Option State :=
  match s.recloseCandidate with
  | none => none
  | some n =>
    match s.enrolledService n with
    | none => none
    | some (_, sv) =>
      if sv.limit < Config.leastLimit then some (s.reclose n)
      else if s.admission sv.limit = .granted then some (s.reclose n)
      else none

/-- R175: the frequency-settled condition. -/
def State.isSettled (s : State) : Bool := decide (s.prot.settled = .holds)

/-- R113: the frequency branch. -/
def State.frequencyBranch (s : State) : Option State :=
  if s.isSettled then
    match s.restoreOrder.find? (fun x => frequencyReady s.gov.bs x.2) with
    | none => none
    | some (n, sv) =>
      some (s.frequencyRestore (decide (sv.limit < Config.leastLimit) || decide (s.admission sv.limit = .granted)) n)
  else none

/-- R114: the capacity branch. -/
def State.capacityBranch (s : State) : Option State :=
  if s.overcommitted then none
  else
    match s.restoreOrder.find? (fun x => capacityShed x.2) with
    | none => none
    | some (n, sv) =>
      if sv.limit < Config.leastLimit then some (s.capacityRestore n)
      else if s.admission sv.limit = .granted then some (s.capacityRestore n)
      else none

/-- R111 step 2: at most one restore action. -/
def State.restoreAction (s : State) : State :=
  match s.recloseBranch with
  | some t => t
  | none =>
    match s.frequencyBranch with
    | some t => t
    | none =>
      match s.capacityBranch with
      | some t => t
      | none => s

/-- R115: a saw in Waiting is asked admission again. -/
def State.recheckSaw (s : State) : State :=
  match s.saw.state, s.saw.draw with
  | .waiting, some d => if s.admission d = .granted then { s with saw := s.saw.grant d } else s
  | _, _ => s

/-- R111: the restore tick. -/
def State.restoreTick (s : State) : State :=
  let s1 := { s with account := { s.account with tick := some Config.restoreTime } }
  let s2 := if s1.overcommitted then s1.curtail else s1
  s2.rederive.restoreAction.rederive.recheckSaw

end Sys2Proof.Machine
end

