-- ==== Sys2Proof/Machine/Gate.lean ====
section
/-!
DEFINITION. The guide vane positioner (03_guide_vane_positioning.md): position counting, end switches, the drive sequencer, the
trim loop, the ceiling and the trip, and the gate commands.
-/

namespace Sys2Proof.Machine

/-! ### The drive sequencer (R42 to R47) -/

/-- R46: entry to Pausing. Both outputs are off and the pause timer starts. -/
def Gate.rest (g : Gate) : Gate := { g with drive := .pausing, pause := some Config.pauseTime, jam := none }

/-- R44, R47: a run starts with the jam timer. -/
def Gate.startRun (d : Drive) (g : Gate) : Gate := { g with drive := d, jam := some Config.jamTime, pause := none }

/-- R42: an end switch fixes the position count. -/
def Gate.fixAt (v : Nat) (g : Gate) : Gate := { g with p := v, prescaler := 0, calibrated := true }

/-- R44: the decision calls for Opening. -/
def Gate.wantsOpen (g : Gate) : Bool := decide (g.p + 2 < g.target)

/-- R44: the decision calls for Closing. -/
def Gate.wantsClose (g : Gate) : Bool := decide (g.target + 2 < g.p)

/-- R44, R42: a decision in Stopped. An active end switch at the end called for fixes the count, and the decision is
taken again on that value. -/
def Gate.decideStopped (g : Gate) : Gate :=
  if g.wantsOpen then
    if g.full then
      let g1 := g.fixAt 1000
      if g1.wantsClose && !g1.shut then g1.startRun .closing else g1
    else g.startRun .opening
  else if g.wantsClose then
    if g.shut then
      let g1 := g.fixAt 0
      if g1.wantsOpen && !g1.full then g1.startRun .opening else g1
    else g.startRun .closing
  else g

/-- R44, R45: a drive decision. Pausing waits for the end of the pause; in Jammed there is none (R40). -/
def Gate.decide (g : Gate) : Gate :=
  match g.drive with
  | .stopped => g.decideStopped
  | .opening => if g.target ≤ g.p then g.rest else g
  | .closing => if g.p ≤ g.target then g.rest else g
  | .pausing => g
  | .jammed _ => g

/-- R40: g_t is set and a drive decision follows. -/
def Gate.setTarget (t : Nat) (g : Gate) : Gate := Gate.decide { g with target := t }

/-- R43, R47: entry to Jammed. -/
def Gate.enterJam (c : JamCause) (g : Gate) : Gate := { g with drive := .jammed c, pause := none, jam := none }

/-- The level of an end switch. -/
def Gate.level (sw : EndSwitch) (g : Gate) : Bool :=
  match sw with
  | .shut => g.shut
  | .full => g.full

def Gate.setLevel (sw : EndSwitch) (active : Bool) (g : Gate) : Gate :=
  match sw with
  | .shut => { g with shut := active }
  | .full => { g with full := active }

/-- R42: the position an end switch fixes. -/
def endPosition : EndSwitch → Nat
  | .shut => 0
  | .full => 1000

/-- R42: an activation with the other switch inactive. A run toward the switch's own end stops there. -/
def Gate.activate (sw : EndSwitch) (g : Gate) : Gate :=
  let g1 := g.fixAt (endPosition sw)
  match sw, g1.drive with
  | .shut, .closing => g1.rest
  | .full, .opening => g1.rest
  | _, _ => g1.decide

/-- R41: a pulse at the position counter. -/
def Gate.pulse (g : Gate) : Gate :=
  let step (p' : Nat) : Gate :=
    if 3 ≤ g.prescaler then
      let g1 := { g with jam := some Config.jamTime, prescaler := 0, p := p' }
      if p' = g.p then g1 else g1.decide
    else { g with jam := some Config.jamTime, prescaler := g.prescaler + 1 }
  match g.drive with
  | .opening => step (min (g.p + 1) 1000)
  | .closing => step (g.p - 1)
  | .stopped => g
  | .pausing => g
  | .jammed _ => g

/-- R46: the pause timer runs out. -/
def Gate.pauseOver (g : Gate) : Gate :=
  match g.drive with
  | .pausing => Gate.decide { g with drive := .stopped, pause := none }
  | .stopped => g
  | .opening => g
  | .closing => g
  | .jammed _ => g

/-- The actuator is being driven. -/
def Gate.driving (g : Gate) : Bool :=
  match g.drive with
  | .opening => true
  | .closing => true
  | .stopped => false
  | .pausing => false
  | .jammed _ => false

def Gate.isJammed (g : Gate) : Bool :=
  match g.drive with
  | .jammed _ => true
  | .stopped => false
  | .opening => false
  | .closing => false
  | .pausing => false

/-- R44: GATE_OPEN is energised exactly while the drive state is Opening. -/
def Gate.openPin (g : Gate) : Bool := g.drive = .opening

/-- R44: GATE_CLOSE is energised exactly while the drive state is Closing. -/
def Gate.closePin (g : Gate) : Bool := g.drive = .closing

/-- R50: a ceiling below g_t lowers g_t at once. -/
def Gate.ceilingEvent (ceiling : Nat) (g : Gate) : Gate := if ceiling < g.target then g.setTarget ceiling else g

/-! ### The trim loop (R49) -/

/-- The saw states in which D counts in the float target (R49). -/
def Saw.inFloat (w : Saw) : Bool :=
  match w.state with
  | .preparing => true
  | .released => true
  | .cutting => true
  | .idle => false
  | .waiting => false
  | .closing => false
  | .fault => false

/-- R49: the float target F. -/
def State.floatTarget (s : State) : Nat := s.gate.float + (if s.saw.inFloat then s.saw.draw.getD 0 else 0)

/-- R49: the gate target a trim decision gives. -/
def State.trimTarget (s : State) : Nat :=
  if s.floatTarget + s.gate.deadband < s.gov.bs then s.gate.target - 5
  else if s.gov.bs + s.gate.deadband < s.floatTarget then min s.water.ceiling (s.gate.target + 5)
  else s.gate.target

/-- R49: the trim decision, skipped during a trip and while Jammed. A change of g_t is followed by a drive decision. -/
def State.trimDecision (s : State) : State :=
  if s.prot.trip || s.gate.isJammed then s
  else if s.trimTarget = s.gate.target then s
  else { s with gate := s.gate.setTarget s.trimTarget }

/-- The positioner as a receiver of a completion (R9, R49). -/
def State.positionerTake (s : State) : State :=
  if 15 ≤ s.gate.trim then State.trimDecision { s with gate := { s.gate with trim := 0 } }
  else { s with gate := { s.gate with trim := s.gate.trim + 1 } }

/-! ### The rows -/

def execGatePulse (s : State) : Host.Outcome State Fault Refusal :=
  live (fun s => { s with gate := s.gate.pulse }) s

/-- R42, R43: the input of an end switch passes to a level. A release changes nothing but the level (DESIGN CHOICE, log 9). A
second switch jams the drive in Pausing too, and the pause then ends (DEDUCED, log 45). -/
def State.endSwitch (sw : EndSwitch) (active : Bool) (s : State) : State :=
  let g := s.gate.setLevel sw active
  if !active || s.gate.level sw then { s with gate := g }
  else if g.shut && g.full then ({ s with gate := g.enterJam .switches }).raise .gate
  else { s with gate := g.activate sw }

def execEndSwitchActivation (sw : EndSwitch) (active : Bool) (s : State) : Host.Outcome State Fault Refusal :=
  live (State.endSwitch sw active) s

def execPauseTimerExpiry (s : State) : Host.Outcome State Fault Refusal :=
  expiry .pauseTimerExpiry (fun s => { s with gate := s.gate.pauseOver }) s

/-- R47. -/
def State.jamExpiry (s : State) : State :=
  if s.gate.driving then ({ s with gate := s.gate.enterJam .stall }).raise .gate else s

def execJamTimerExpiry (s : State) : Host.Outcome State Fault Refusal := expiry .jamTimerExpiry State.jamExpiry s

def execTrimDecision (s : State) : Host.Outcome State Fault Refusal := live State.trimDecision s

/-- R48. -/
def execGateRetry (s : State) : Host.Outcome State Fault Refusal :=
  command 0x23 promptBound (fun s =>
    if s.gate.isJammed && !(s.gate.shut && s.gate.full) then ({ s with gate := s.gate.rest }, .plain .done)
    else (s, .plain .state)) s

/-- R52. -/
def execGateSet (target : Half) (s : State) : Host.Outcome State Fault Refusal :=
  command 0x21 promptBound (fun s =>
    if 1000 < target.toNat then (s, .plain .range)
    else if s.prot.trip then (s, .plain .state)
    else if s.gate.isJammed then (s, .plain .state)
    else ({ s with gate := s.gate.setTarget (min target.toNat s.water.ceiling) }, .plain .done)) s

/-- R53. -/
def execGateCalibrate (position : Half) (s : State) : Host.Outcome State Fault Refusal :=
  command 0x22 promptBound (fun s =>
    if 1000 < position.toNat then (s, .plain .range)
    else if s.gate.driving then (s, .plain .state)
    else if s.gate.shut || s.gate.full then (s, .plain .state)
    else ({ s with gate := (s.gate.fixAt position.toNat).decide }, .plain .done)) s

/-- R54. FFFFh is taken as 65,535 (DESIGN CHOICE, log 53). -/
def execGateTrimSet (float deadband : Half) (s : State) : Host.Outcome State Fault Refusal :=
  command 0x24 promptBound (fun s =>
    ({ s with gate := { s.gate with
        float := min float.toNat s.gov.bCap
        deadband := clampNat 10 500 deadband.toNat } }, .plain .done)) s

def execGateRead (s : State) : Host.Outcome State Fault Refusal :=
  command 0x20 promptBound (fun s => (s, .reading .gate)) s

end Sys2Proof.Machine
end

