-- ==== Sys2Proof/Machine/FieldLine.lean ====
section
/-!
DEFINITION. The field line's frames (07_the_field_line.md, R188): byte order, the CRC, the frames of the part's messages, the
reading of a station's reply, and the judging of replies (R126, R127).
-/

namespace Sys2Proof.Machine

/-! ### Bytes (R186) -/

/-- Two bytes, most significant first. -/
def halfBytes (h : Half) : List Byte := [h.extractLsb' 8 8, h.extractLsb' 0 8]

/-- Four bytes, most significant first. -/
def wordBytes (w : BitVec 32) : List Byte :=
  [w.extractLsb' 24 8, w.extractLsb' 16 8, w.extractLsb' 8 8, w.extractLsb' 0 8]

/-! ### The CRC (R121) -/

/-- The generator's low sixteen terms. -/
def crcPoly : Half := 0x1021

/-- One data bit: shift left by one; if the bit shifted out differs from the data bit, combine with the generator. -/
def crcBit (reg : Half) (bit : Bool) : Half :=
  if reg.msb != bit then (reg <<< 1) ^^^ crcPoly else reg <<< 1

/-- One character, most significant bit first. -/
def crcByte (reg : Half) (b : Byte) : Half :=
  [7, 6, 5, 4, 3, 2, 1, 0].foldl (fun r i => crcBit r (b.getLsbD i)) reg

/-- R121: the register starts at all ones. -/
def crc (bytes : List Byte) : Half := bytes.foldl crcByte 0xFFFF

/-- R121: the CRC follows the content, most significant byte first. -/
def withCrc (bytes : List Byte) : List Byte := bytes ++ halfBytes (crc bytes)

/-! ### Prefixes (R122) -/

/-- A serial begins with a prefix. -/
def Prefix.begins (p : Prefix) (x : Serial) : Bool := decide (x >>> (32 - p.len) = p.bits >>> (32 - p.len))

/-- The empty prefix, with which every serial begins. -/
def Prefix.empty : Prefix := ⟨0, 0⟩

/-- R147: the prefix followed by one more bit. -/
def Prefix.child (p : Prefix) (one : Bool) : Prefix :=
  ⟨p.len + 1, if one then p.bits ||| (1#32 <<< (31 - p.len)) else p.bits⟩

/-- One of two prefixes is a prefix of the other. -/
def Prefix.overlaps (p q : Prefix) : Bool :=
  let n := 32 - min p.len q.len
  decide (p.bits >>> n = q.bits >>> n)

/-! ### The part's frames (R122, R188) -/

/-- R69: the station number byte of a slot. -/
def stationNumber (n : Slot) : Byte := BitVec.ofNat 8 (n.val + 1)

/-- R188: the frame of a message, from the station number to the last content byte. -/
def Message.body : Message → List Byte
  | .query n => [stationNumber n, 0x01]
  | .order n t =>
    [stationNumber n, 0x02, if t.closed then 1 else 0] ++ halfBytes (BitVec.ofNat 16 t.limit) ++
      [BitVec.ofNat 8 t.cls]
  | .shed c _ => [0, 0x03, BitVec.ofNat 8 c]
  | .roll p => [0, 0x04, BitVec.ofNat 8 p.len] ++ wordBytes p.bits
  | .assign x n => [0, 0x05] ++ wordBytes x ++ [stationNumber n]
  | .mute x => [0, 0x06] ++ wordBytes x
  | .lineClear => [0, 0x07]

/-- R188: the whole frame. -/
def Message.frame (m : Message) : List Byte := withCrc m.body

/-! ### Characters (R119) -/

/-- R119: the crystal periods of a bit, at 8 MHz. -/
def bitPeriods : Nat := 833

/-- R119: a character lasts ten bit times; the time of a frame in microseconds, rounded up (DEDUCED, log 12). -/
def frameTime (characters : Nat) : Nat := (characters * (10 * bitPeriods) + 7) / 8

/-- R119: the ten bits of a character, bit 0 sent first, 1 for a mark: a start bit at space, eight data bits, the least
significant first, a stop bit at mark. -/
def characterBits (b : Byte) : BitVec 10 := 1#1 ++ b ++ 0#1

/-- R119: the bits of a message on the wire, in the order sent. -/
def Message.bits (m : Message) : List Bool :=
  m.frame.flatMap (fun b => (List.range 10).map (characterBits b).getLsbD)

/-- R119: the line stands at space at the middle of the first bit time. -/
def startSeen (samples : BitVec 9) : Bool := !samples.getLsbD 0

/-- R119: the data bits sampled. -/
def characterOf (samples : BitVec 9) : Byte := samples.extractLsb' 1 8

/-! ### What a message calls for (R122) -/

/-- R122: the messages that expect a reply. -/
def Message.expectsReply : Message → Bool
  | .query _ => true
  | .order _ _ => true
  | .roll _ => true
  | .assign _ _ => true
  | .shed _ _ => false
  | .mute _ => false
  | .lineClear => false

/-- R122: the slot whose record gives the expected kind of reply. -/
def Message.slot? : Message → Option Slot
  | .query n => some n
  | .order n _ => some n
  | .assign _ n => some n
  | .shed _ _ => none
  | .roll _ => none
  | .mute _ => none
  | .lineClear => none

/-! ### Replies (R120, R123, R188) -/

/-- A well-formed reply, with its station number byte. -/
inductive LineReply where
  | report (number : Byte) (content : Content)
  | answer (serial : Serial)
  | take (number : Byte) (serial : Serial) (content : Content)
  deriving DecidableEq, Repr

/-- R123: a reported limit is at most 4,095. -/
def limitBound : Nat := 4095

/-- R188: the trip indication, none for a byte outside the defined values. -/
def tripOf (b : Byte) : Option (Option TripReason) :=
  if b = 0 then some none
  else if b = 1 then some (some .overcurrent)
  else if b = 2 then some (some .leakage)
  else none

/-- R188: the content of a Service report. -/
def serviceContent (breaker : Byte) (limit : Half) (cls : Byte) (demand : Half) (trip : Byte) : Option Content :=
  match flagOf breaker, classOf cls, tripOf trip with
  | some closed, some c, some t => some (.service ⟨closed, min limit.toNat limitBound, c⟩ demand.toNat t)
  | _, _, _ => none

/-- R188: the nine content bytes of a REPORT sent by a station number. The five trailing bytes of a Gauge report are not
examined; a content number that differs from the station number makes the frame garbled. -/
def reportContent (number : Byte) : List Byte → Option Content
  | [m, k, a, b, c, d, e, f, g] =>
    if m ≠ number then none
    else if k = 0 then serviceContent a (b ++ c) d (e ++ f) g
    else if k = 1 then some (.gauge (a ++ b : Half).toNat)
    else none
  | _ => none

/-- R120, R121, R188: the well-formed reply a run of characters is, none where it is garbled. The last two characters are the
CRC. The station number of an ANSWER is not examined (DEDUCED, log 29). -/
def replyOf (bytes : List Byte) : Option LineReply :=
  if crc bytes ≠ 0 then none
  else
    match bytes.dropLast.dropLast with
    | [_, kind, a, b, c, d] =>
      if kind = 0x82 ∧ bytes.length = 8 then some (.answer (a ++ b ++ c ++ d)) else none
    | number :: kind :: rest =>
      if kind = 0x81 ∧ bytes.length = 13 then (reportContent number rest).map (.report number)
      else if kind = 0x83 ∧ bytes.length = 17 then
        match rest with
        | a :: b :: c :: d :: content => (reportContent number content).map (.take number (a ++ b ++ c ++ d))
        | _ => none
      else none
    | _ => none

/-- What the reply window brought (R124, R125). -/
inductive Heard where
  | absent
  | garbled
  | frame (r : LineReply)
  deriving DecidableEq, Repr

/-- R124, R120: the characters gathered are judged as one frame. -/
def heardOf (framing : Bool) (bytes : List Byte) : Heard :=
  if framing then .garbled
  else
    match replyOf bytes with
    | some r => .frame r
    | none => .garbled

/-! ### Judging (R126, R127) -/

def Content.kind : Content → Kind
  | .service _ _ _ => .service
  | .gauge _ => .gauge

/-- R126: the valid reply to a QUERY or ORDER; none is a miss. -/
def judgeReport (n : Slot) (expect : Option Kind) : Heard → Option Content
  | .frame (.report m c) => if m = stationNumber n ∧ expect = some c.kind then some c else none
  | .frame (.answer _) => none
  | .frame (.take _ _ _) => none
  | .garbled => none
  | .absent => none

/-- R126: the valid reply to an ASSIGN; none is a miss. -/
def judgeTake (x : Serial) (n : Slot) (expect : Option Kind) : Heard → Option Content
  | .frame (.take m y c) => if y = x ∧ m = stationNumber n ∧ expect = some c.kind then some c else none
  | .frame (.report _ _) => none
  | .frame (.answer _) => none
  | .garbled => none
  | .absent => none

/-- R127: the classes of a reply to a ROLL. -/
inductive RollClass where
  | silence
  | clean (serial : Serial)
  | collision
  deriving DecidableEq, Repr

def judgeRoll (p : Prefix) : Heard → RollClass
  | .absent => .silence
  | .frame (.answer x) => if p.begins x then .clean x else .collision
  | .frame (.report _ _) => .collision
  | .frame (.take _ _ _) => .collision
  | .garbled => .collision

end Sys2Proof.Machine
end

