-- ==== Sys2Proof/Machine/Turns.lean ====
section
/-!
DEFINITION. The line engine's work (08_line_engine_and_enrollment.md): handing a message to the line port, choosing a turn, taking
outcomes and sent events, the roll call, the stop, and automatic enrollment.
-/

namespace Sys2Proof.Machine

/-! ### Handing over a message (R122, R124, R135) -/

/-- R122: the kind of the record in a slot. -/
def State.kindAt (s : State) (n : Slot) : Option Kind := (s.station n).map Station.kind

/-- A message is handed to the line port, which begins to transmit it. `roll` marks a roll step (R141). -/
def State.hand (roll : Bool) (m : Message) (s : State) : State :=
  { s with
    port :=
      { phase := .transmitting
        turn := some ⟨m, m.slot?.bind s.kindAt, false⟩
        reply := []
        framing := false
        timer := some (frameTime m.frame.length)
        gap := none
        limit := none }
    engine := { s.engine with lastRoll := roll } }

/-! ### Choosing a turn (R141 to R145, R147) -/

/-- R143: an ASSIGN is sent only if the record of its number is non-Vacant and holds its serial. -/
def State.assignValid (s : State) (x : Serial) (n : Slot) : Bool :=
  match s.station n with
  | some st => decide (st.serial = x)
  | none => false

/-- R143: ASSIGNs at the head of the queue that fail the test are discarded, each freeing a place. The fuel is the length of
the queue. -/
def State.dropStale : Nat → State → State
  | 0, s => s
  | k + 1, s =>
    match s.engine.errands with
    | .assign x n _ _ :: rest =>
      if s.assignValid x n then s
      else State.dropStale k (State.placeFreed { s with engine := { s.engine with errands := rest } })
    | .mute _ :: _ => s
    | [] => s

/-- R144: a record the push scan considers. -/
def State.pushable (s : State) (n : Slot) : Bool :=
  match s.onLineService n with
  | some (st, sv) => st.pushPending && st.silence.isNone && !sv.pushDeferred && !s.engine.hold.contains n
  | none => false

/-- R144: a lowering push. -/
def State.lowering (s : State) (n : Slot) : Bool :=
  match s.station n with
  | some st => decide (st.intendedShare ≤ st.ackShare)
  | none => false

/-- R144: the lowest-slot lowering push, else the lowest-slot raising push. -/
def State.pushScan (s : State) : Option Slot :=
  match slots.find? (fun n => s.pushable n && s.lowering n) with
  | some n => some n
  | none => slots.find? s.pushable

/-- The target of a Service record (R73). -/
def State.targetAt (s : State) (n : Slot) : Option Settings :=
  match s.station n with
  | some st => st.service.map st.target
  | none => none

/-- The slots from the poll cursor upward, wrapping (R141 item 5). -/
def pollOrder (cursor : Slot) : List Slot := slots.map (fun i => cursor + i)

def State.polled (s : State) (n : Slot) : Bool :=
  match s.station n with
  | some st => st.onLine
  | none => false

/-- R141 item 5: the record a routine poll would go to. -/
def State.pollNext (s : State) : Option Slot := (pollOrder s.engine.cursor).find? s.polled

/-- The enrollment is Active without a restart pending. -/
def Enrolment.steps : Enrolment → Bool
  | .active _ false => true
  | .active _ true => false
  | .inactive => false

def Enrolment.isActive : Enrolment → Bool
  | .active _ _ => true
  | .inactive => false

/-- R141 item 4: a roll step may be taken. -/
def State.rollReady (s : State) : Bool :=
  s.engine.enrolment.steps && s.engine.errandRoom && (!s.engine.lastRoll || s.pollNext.isNone)

/-- R141 items 4 and 5, R147, R145. -/
def State.chooseRollOrPoll (s : State) : State :=
  match s.rollReady, s.engine.stack with
  | true, p :: rest => State.hand true (.roll p) { s with engine := { s.engine with stack := rest } }
  | _, _ =>
    match s.pollNext with
    | some n => State.hand false (.query n) { s with engine := { s.engine with cursor := n + 1 } }
    | none => s

/-- R141 items 3 to 5. -/
def State.choosePush (s : State) : State :=
  match s.pushScan with
  | some n =>
    match s.targetAt n with
    | some t => s.hand false (.order n t)
    | none => s.chooseRollOrPoll
  | none => s.chooseRollOrPoll

/-- R141 items 2 to 5, R143: a MUTE leaves the queue when its turn is chosen, which frees a place; an ASSIGN stays. -/
def State.chooseErrand (s : State) : State :=
  let s1 := s.dropStale s.engine.errands.length
  match s1.engine.errands with
  | .mute x :: rest => (State.hand false (.mute x) { s1 with engine := { s1.engine with errands := rest } }).placeFreed
  | .assign x n _ _ :: _ => s1.hand false (.assign x n)
  | [] => s1.choosePush

/-- R141 item 1, R142: the oldest shed entry, if there is one. -/
def State.chooseShed (s : State) : Option State :=
  match s.engine.sheds with
  | e :: rest => some (State.hand false (.shed e.cls e.amount) { s with engine := { s.engine with sheds := rest } })
  | [] => none

/-- R135, R136, R141: the engine chooses a turn, where no turn is in flight and no stop in progress. Held on a fresh line, it hands
over a SHED before the LINE CLEAR (DEDUCED, log 50). -/
def State.chooseTurn (s : State) : State :=
  if s.port.phase = .idle ∧ s.engine.stopping = false then
    match s.engine.state with
    | .stopped => s
    | .held => s.chooseShed.getD s
    | .running =>
      if s.engine.fresh then s.hand false .lineClear
      else
        match s.chooseShed with
        | some t => t
        | none => s.chooseErrand
  else s

/-! ### The roll call (R146 to R149) -/

/-- A saturating count (8.2). -/
def bump (n : Nat) : Nat := min 255 (n + 1)

/-- The counts of the enrollment change; they stand after its end (DEDUCED, log 30). -/
def State.withCounts (f : EnrolCounts → EnrolCounts) (s : State) : State :=
  s.withEngine (fun e => { e with counts := f e.counts })

/-- Prefixes go on top of the stack, unless one there overlaps the prefix of this step (R146; DEDUCED, log 18). -/
def State.pushPrefixes (p : Prefix) (new : List Prefix) (s : State) : State :=
  if s.engine.stack.any p.overlaps then s else s.withEngine (fun e => { e with stack := new ++ e.stack })

/-- R147: a Collision splits the prefix, unless the enrollment is Inactive or a stop is in progress. -/
def State.splitPrefix (p : Prefix) (s : State) : State :=
  if s.engine.enrolment.isActive && !s.engine.stopping then s.pushPrefixes p [p.child false, p.child true] else s

/-- R148: a Clean serial is handled by who holds it. Where an errand is to be placed and the queue is full, the prefix alone
is put back, whatever the enrollment. A new stray's MUTE takes the place of an old errand for it (DEDUCED, log 19). -/
def State.cleanSerial (p : Prefix) (x : Serial) (s : State) : State :=
  let e := s.engine
  let matched := State.withCounts (fun c => { c with matched := bump c.matched })
  let stray := State.withCounts (fun c => { c with strays := bump c.strays })
  match s.holder x with
  | some n =>
    match s.station n with
    | none => s
    | some st =>
      if st.life = .retiring ∧ st.mute ≠ .idle then matched s
      else if e.hasErrand x && !e.hasMute x then matched s
      else if !e.errandRoom then s.pushPrefixes p [p]
      else if e.hasMute x then matched (s.withEngine (Engine.replaceErrand (.assign x n .roll 0)))
      else matched (s.withEngine (Engine.addErrand (.assign x n .roll 0)))
  | none =>
    if e.strays.contains x then
      if e.hasErrand x then stray s
      else if e.errandRoom then stray (s.withEngine (Engine.addErrand (.mute x)))
      else s.pushPrefixes p [p]
    else if e.strays.length < Config.strayPlaces then
      if !e.errandRoom then s.pushPrefixes p [p]
      else
        let s1 := s.withEngine (fun e => { e with strays := e.strays ++ [x] })
        let s2 :=
          if e.hasErrand x then s1.withEngine (Engine.replaceErrand (.mute x))
          else s1.withEngine (Engine.addErrand (.mute x))
        (stray s2).raise .stray
    else
      ((s.withEngine (fun e => { e with overflow := true })).withCounts
        (fun c => { c with dropped := bump c.dropped })).raise .stray

/-- R147: the outcome of a roll step in its class. -/
def State.rollClass (p : Prefix) (c : RollClass) (s : State) : State :=
  match c with
  | .silence => s
  | .clean x => s.cleanSerial p x
  | .collision =>
    if p.len < 32 then s.splitPrefix p
    else (s.withCounts (fun c => { c with duplicates := bump c.duplicates })).raise .enrol

def EnrolCounts.notable (c : EnrolCounts) : Bool :=
  decide (c.strays ≠ 0) || decide (c.dropped ≠ 0) || decide (c.duplicates ≠ 0)

/-- R149, R150: the enrollment becomes Inactive with a report; an Automatic one starts the rejoin interval timer. -/
def Engine.endEnrolment (kind : EnrolKind) (ending : Ending) (e : Engine) : Engine :=
  { e with
    enrolment := .inactive
    lastReport := some ⟨kind, ending, e.counts⟩
    rejoin :=
      match kind with
      | .automatic => some Config.rejoinTime
      | .byHost => e.rejoin }

/-- R149: the enrollment ends when the stack is empty, no restart is pending and no stop is in progress. -/
def State.endIfDone (s : State) : State :=
  match s.engine.enrolment with
  | .active kind false =>
    if s.engine.stack = [] ∧ s.engine.stopping = false then
      (s.withEngine (Engine.endEnrolment kind .complete)).raiseIf
        (match kind with
          | .byHost => true
          | .automatic => s.engine.counts.notable) .enrol
    else s
  | .active _ true => s
  | .inactive => s

/-! ### Outcomes (R143 to R145, R147) and sent events (R125, R136, R142, R143) -/

/-- The ASSIGN errand of a serial and number. -/
def Errand.isAssign (x : Serial) (n : Slot) : Errand → Bool
  | .assign y m _ _ => decide (y = x) && decide (m = n)
  | .mute _ => false

/-- The attempts of the queued ASSIGN of a serial and number. -/
def Engine.attempts (e : Engine) (x : Serial) (n : Slot) : Option (Origin × Nat) :=
  match e.errands.find? (Errand.isAssign x n) with
  | some (.assign _ _ o a) => some (o, a)
  | _ => none

def Engine.dropAssign (x : Serial) (n : Slot) (e : Engine) : Engine :=
  { e with errands := e.errands.filter (fun r => !r.isAssign x n) }

/-- R143: an ASSIGN missed for the third time is given up, which frees a place. -/
def State.abandon (x : Serial) (n : Slot) (s : State) : State :=
  State.placeFreed ((s.withEngine (fun e =>
    { e.dropAssign x n with abandoned := bump e.abandoned, lastAbandoned := some x })).raise .enrol)

/-- R143: the outcome of an ASSIGN that was missed. -/
def State.assignMissed (x : Serial) (n : Slot) (s : State) : State :=
  match s.engine.attempts x n with
  | some (o, a) =>
    if a < 2 then s.withEngine (fun e => (e.dropAssign x n).addErrand (.assign x n o (a + 1)))
    else s.abandon x n
  | none => s

/-- R143: the outcome of an ASSIGN answered by a valid TAKE: the errand leaves, then the table takes the TAKE, and then the
freed place is used (R83). A record that this TAKE makes ready comes before the others that are Wanted (DEDUCED, log 48). -/
def State.assignTaken (x : Serial) (n : Slot) (c : Content) (s : State) : State :=
  match s.engine.attempts x n with
  | some _ => ((s.withEngine (Engine.dropAssign x n)).takeReply x n c).placeFreed
  | none => s.takeReply x n c

def Engine.leaveHold (n : Slot) (e : Engine) : Engine := { e with hold := e.hold.filter (fun m => decide (m ≠ n)) }

def Engine.joinHold (n : Slot) (e : Engine) : Engine := if e.hold.contains n then e else { e with hold := e.hold ++ [n] }

/-- R144: after a valid REPORT to an ORDER, the station has not enforced what it was sent. -/
def State.disobeyed (s : State) (n : Slot) (sent : Settings) : Bool :=
  match s.station n with
  | some st => st.pushPending && decide (s.targetAt n = some sent)
  | none => false

/-- The outcome of a turn is taken (R126, R127, R143 to R145, R147). -/
def State.outcome (t : Turn) (h : Heard) (s : State) : State :=
  match t.message with
  | .query n =>
    match judgeReport n t.expect h with
    | some c => (s.report n c).withEngine (Engine.leaveHold n)
    | none => s.missedReply n false
  | .order n sent =>
    match judgeReport n t.expect h with
    | some c =>
      let s1 := s.report n c
      if s1.disobeyed n sent then s1.withEngine (Engine.joinHold n) else s1
    | none => s.missedReply n true
  | .assign x n =>
    match judgeTake x n t.expect h with
    | some c => s.assignTaken x n c
    | none => s.assignMissed x n
  | .roll p => (s.rollClass p (judgeRoll p h)).endIfDone
  | .shed _ _ => s
  | .mute _ => s
  | .lineClear => s

/-- A sent event is taken. -/
def State.sent (m : Message) (s : State) : State :=
  match m with
  | .shed _ amount => s.postFeed (amount : Int)
  | .mute x => s.muteSent x
  | .lineClear => s.withEngine (fun e => { e with fresh := false })
  | .query _ => s
  | .order _ _ => s
  | .roll _ => s
  | .assign _ _ => s

/-! ### The stop (R138) -/

/-- R138 step 3: the errands a stop keeps. -/
def Errand.kept : Errand → Bool
  | .assign _ _ .claim _ => true
  | .assign _ _ .roll _ => false
  | .mute _ => false

/-- R138 step 3: Retiring records whose MUTE is discarded return to Wanted. -/
def State.unqueueMutes (s : State) : State :=
  slots.foldl (fun t n =>
    match t.station n with
    | some st => if st.mute = .queued ∧ s.engine.hasMute st.serial then t.setMute n .wanted else t
    | none => t) s

/-- R138 step 2: an Active enrollment begins again from the empty prefix (DEDUCED, log 22). -/
def Engine.stopEnrolment (e : Engine) : Engine :=
  match e.enrolment with
  | .inactive => { e with stack := [] }
  | .active k _ =>
    if e.state = .running then { e with stack := [.empty], enrolment := .active k false }
    else { e with stack := [], enrolment := .active k true }

/-- R83, R138 step 3: the MUTEs of all Wanted records are placed in slot order, as room allows (DEDUCED, log 33). -/
def State.placeAllWanted (s : State) : State :=
  slots.foldl (fun t n =>
    match t.station n with
    | some st => if st.mute = .wanted then t.placeWantedMute n else t
    | none => t) s

/-- R138: the completion of a stop. -/
def State.completeStop (s : State) : State :=
  (s.unqueueMutes.withEngine (fun e =>
    { e.stopEnrolment with
      cursor := 0
      lastRoll := false
      errands := e.errands.filter Errand.kept
      sheds := []
      hold := []
      stopping := false })).placeAllWanted

/-! ### Automatic enrollment (R151) -/

/-- R151: some Enrolled or Retiring record is Silent with a silence time of 600 s. -/
def State.longSilent (s : State) : Bool :=
  slots.any (fun n =>
    match s.station n with
    | some st => st.onLine && decide (∃ t ∈ st.silence, Config.longTime ≤ t)
    | none => false)

/-- R146, R151: an enrollment begins. -/
def Engine.beginEnrolment (kind : EnrolKind) (e : Engine) : Engine :=
  { e with enrolment := .active kind false, counts := ⟨0, 0, 0, 0⟩, stack := [.empty] }

/-- R151: an automatic enrollment begins where its conditions hold. -/
def State.autoEnrol (s : State) : State :=
  if s.engine.state = .running ∧ s.engine.enrolment = .inactive ∧ s.engine.rejoin = none ∧ s.longSilent = true then
    s.withEngine (Engine.beginEnrolment .automatic)
  else s

end Sys2Proof.Machine
end

