-- ==== Sys2Proof/Machine/Settle.lean ====
section
/-!
DEFINITION. What follows within an event once its owner has finished: the water plan's hand-over (R65, R66), the account's
derivation (R98, R99), the push hold set (R144), the Apply's marks (R105, R106), automatic enrollment (R151) and the choice of a
turn on a quiet line (R141), in this order (DEDUCED, log 17).
-/

namespace Sys2Proof.Machine

/-- The number of the band in force (R65). -/
def Water.bandNumber (w : Water) : Option Nat := w.plan.map WaterPlan.inForce

/-- R66: LEVEL is raised where the level source state or the number of the band in force has changed. -/
def State.levelEvent (before s : State) : State :=
  s.raiseIf (decide (s.water.source ≠ before.water.source) || decide (s.water.bandNumber ≠ before.water.bandNumber)) .level

/-- R65, R50: the ceiling event, where the ceiling has changed in value. -/
def State.ceilingChange (before s : State) : State :=
  if s.water.ceiling = before.water.ceiling then s
  else { s with gate := s.gate.ceilingEvent s.water.ceiling }

/-- R144: the target that a slot of the push hold set was held under: that of the event's beginning, or, for a slot that has
joined the set within the event, that which its ORDER carried, as the owner of the event has left it. -/
def State.heldTarget (before owner : State) (n : Slot) : Option Settings :=
  if before.engine.hold.contains n then before.targetAt n else owner.targetAt n

/-- R144: a slot stays in the push hold set while push pending is set and its target has not changed since it was held. -/
def State.stillHeld (before owner s : State) (n : Slot) : Bool :=
  match s.station n with
  | some st => st.pushPending && decide (s.targetAt n = State.heldTarget before owner n)
  | none => false

def State.pruneHold (before owner s : State) : State :=
  s.withEngine (fun e => { e with hold := e.hold.filter (fun n => State.stillHeld before owner s n) })

/-- The end of an event that began in `before` and whose owner has left `s`. -/
def State.settle (before s : State) : State :=
  ((State.pruneHold before s (State.ceilingChange before (State.levelEvent before s)).rederive).examineApply.autoEnrol).chooseTurn

/-- An event whose owner's part is `f`, settled. -/
def settled (f : State → State) (s : State) : State := State.settle s (f s)

/-- A command whose owner's part is `f`, settled. -/
def settledCommand (f : State → State × Reply) (s : State) : State × Reply :=
  (State.settle s (f s).1, (f s).2)

end Sys2Proof.Machine
end

