-- ==== Sys2Proof/Machine/Stations.lean ====
section
/-!
DEFINITION. The rows of the station table (05_the_station_table.md): the record commands, the record timers, and the reads.
-/

namespace Sys2Proof.Machine

/-! ### PROVISION and EDIT (R77, R78) -/

/-- R77: the Provisioned record a slot receives. -/
def provisioned (kind : Kind) (serial : Serial) (cls limit : Nat) (connect : Bool) : Record :=
  { changed := false
    station := some
      { serial := serial
        life := .provisioned
        missed := 0
        silence := none
        mute := .idle
        service :=
          match kind with
          | .gauge => none
          | .service => some
              { connectOnEnrol := connect
                limit := limit
                cls := cls
                staged := none
                ack := none
                demand := none
                condition := .off
                tripCount := false
                live := 0
                pushDeferred := false } } }

/-- R77: a claimed stray leaves the list, and its ASSIGN takes the place of an errand for the serial (DESIGN CHOICE, log
20), or joins the queue. -/
def Engine.claim (x : Serial) (n : Slot) (e : Engine) : Engine :=
  let e1 := { e with strays := e.strays.filter (fun y => decide (y ≠ x)) }
  if e.hasErrand x then e1.replaceErrand (.assign x n .claim 0) else e1.addErrand (.assign x n .claim 0)

/-- R77 step 3. -/
def State.duplicates (s : State) (kind : Kind) (x : Serial) : Bool :=
  (s.holder x).isSome || (decide (kind = .gauge) && s.gaugeSlot.isSome)

/-- R77 step 4. -/
def Engine.claimFull (e : Engine) (x : Serial) : Bool := e.strays.contains x && !e.errandRoom && !e.hasMute x

/-- R77: the record is created. -/
def State.provision (n : Slot) (kind : Kind) (x : Serial) (cls limit : Nat) (connect : Bool) (s : State) : State :=
  let s1 := s.setRecord n (provisioned kind x cls limit connect)
  let s2 := if s.engine.strays.contains x then s1.withEngine (Engine.claim x n) else s1
  match kind with
  | .gauge => { s2 with water := s2.water.gaugeAppears }
  | .service => s2

/-- R77: the checks in their order. -/
def State.provisionCommand (slot kind : Byte) (x : Serial) (cls : Byte) (limit : Half) (connect : Byte) (s : State) :
    State × Reply :=
  match slotOf slot, kindOf kind, classOf cls, limitOf limit, flagOf connect with
  | some n, some k, some c, some l, some con =>
    if (s.station n).isSome then (s, .plain .state)
    else if s.duplicates k x then (s, .plain .duplicate)
    else if s.engine.claimFull x then (s, .plain .full)
    else (settled (State.provision n k x c l con) s, .plain .done)
  | _, _, _, _, _ => (s, .plain .range)

def execProvision (slot kind : Byte) (x : Serial) (cls : Byte) (limit : Half) (connect : Byte) (s : State) :
    Host.Outcome State Fault Refusal :=
  command 0x32 slowBound (State.provisionCommand slot kind x cls limit connect) s

/-- R78: the checks in their order, and the staged plan. -/
def State.editCommand (slot : Byte) (limit : Half) (cls : Byte) (s : State) : State × Reply :=
  match slotOf slot, limitOf limit, classOf cls with
  | some n, some l, some c =>
    match s.station n with
    | some st =>
      match st.service with
      | some sv =>
        if st.life = .retiring then (s, .plain .state)
        else (s.setService n st { sv with staged := some ⟨l, c, false⟩ }, .plain .done)
      | none => (s, .plain .state)
    | none => (s, .plain .state)
  | _, _, _ => (s, .plain .range)

def execEdit (slot : Byte) (limit : Half) (cls : Byte) (s : State) : Host.Outcome State Fault Refusal :=
  command 0x33 promptBound (State.editCommand slot limit cls) s

/-! ### CLOSE, OPEN, RELEASE (R79 to R81) -/

/-- A command that names a slot: RANGE above 63. -/
def slotCommand (slot : Byte) (f : State → Slot → State × Reply) (s : State) : State × Reply :=
  match slotOf slot with
  | none => (s, .plain .range)
  | some n => f s n

/-- A rise of the intended share that the host asks for: on a refusal the account's answer is returned (R100). -/
def admitted (x : Nat) (granted : State → State) (s : State) : State × Reply :=
  match s.admission x with
  | .granted => (settled granted s, .plain .done)
  | .refused => (s, .plain .refused)
  | .noplan => (s, .plain .noplan)

/-- R79. -/
def State.closeCommand (s : State) (n : Slot) : State × Reply :=
  match s.enrolledService n with
  | none => (s, .plain .state)
  | some (st, sv) =>
    match sv.condition with
    | .connected => (s, .plain .done)
    | .shed _ _ => (s, .plain .state)
    | .tripped _ => (s, .plain .state)
    | .isolated _ => (s, .plain .state)
    | .off =>
      if sv.limit < Config.leastLimit then (s, .plain .range)
      else admitted sv.limit (fun s => s.setService n st { sv with condition := .connected }) s

/-- R80. -/
def State.openCommand (s : State) (n : Slot) : State × Reply :=
  match s.onLineService n with
  | none => (s, .plain .state)
  | some (st, sv) =>
    if st.life = .retiring then (s, .plain .done)
    else (settled (fun s => s.setService n st { sv with condition := .off }) s, .plain .done)

/-- R81. -/
def State.releaseCommand (s : State) (n : Slot) : State × Reply :=
  match s.enrolledService n with
  | none => (s, .plain .state)
  | some (st, sv) =>
    if !sv.condition.isTrip then (s, .plain .state)
    else if sv.limit < Config.leastLimit then (s, .plain .range)
    else admitted sv.limit (fun s => s.setService n st { sv with condition := .connected, tripCount := false }) s

def execCloseSlot (slot : Byte) (s : State) : Host.Outcome State Fault Refusal :=
  command 0x34 promptBound (slotCommand slot State.closeCommand) s

def execOpenSlot (slot : Byte) (s : State) : Host.Outcome State Fault Refusal :=
  command 0x35 promptBound (slotCommand slot State.openCommand) s

def execReleaseSlot (slot : Byte) (s : State) : Host.Outcome State Fault Refusal :=
  command 0x36 promptBound (slotCommand slot State.releaseCommand) s

/-! ### RETIRE (R82) -/

/-- R82: an Enrolled Service record starts to retire. -/
def Service.retired (sv : Service) : Service := { sv with condition := .off, staged := none, limit := 0 }

/-- R82. -/
def State.retire (n : Slot) (st : Station) (s : State) : State :=
  match st.service with
  | some sv =>
    (s.setStation n { st with life := .retiring, mute := .idle, service := some sv.retired }).readyTest n
  | none => (s.setStation n { st with life := .retiring }).wantMute n

/-- R82. -/
def State.retireCommand (s : State) (n : Slot) : State × Reply :=
  match s.station n with
  | none => (s, .plain .state)
  | some st =>
    match st.life with
    | .retiring => (s, .plain .state)
    | .provisioned => (settled (State.vacate n) s, .plain .done)
    | .enrolled => (settled (State.retire n st) s, .plain .started)

def execRetireSlot (slot : Byte) (s : State) : Host.Outcome State Fault Refusal :=
  command 0x37 promptBound (slotCommand slot State.retireCommand) s

/-! ### The record timers and the silent link (R88, R90, R91) -/

/-- R88: the missed count of an Answering record reaches 3 (DESIGN CHOICE, log 6). -/
def State.linkSilent (n : Slot) (s : State) : State :=
  match s.station n with
  | some st => if st.onLine && st.silence.isNone && decide (2 ≤ st.missed) then s.makeSilent n else s
  | none => s

def execRecordLinkSilent (n : Slot) (s : State) : Host.Outcome State Fault Refusal := live (settled (State.linkSilent n)) s

/-- R88: the silence time reaches 600 s and stops. -/
def State.silenceLimit (n : Slot) (s : State) : State :=
  match s.station n with
  | some st => if st.onLine && st.silence.isSome then s.setStation n { st with silence := some Config.longTime } else s
  | none => s

def execSilenceTimeLimit (n : Slot) (s : State) : Host.Outcome State Fault Refusal :=
  expiry (.silenceTimeLimit n) (settled (State.silenceLimit n)) s

/-- R90: the reclose timer runs out. -/
def State.recloseDue (n : Slot) (s : State) : State :=
  match s.enrolledService n with
  | some (st, sv) =>
    match sv.condition with
    | .tripped (some _) => s.setService n st { sv with condition := .tripped none }
    | _ => s
  | none => s

def execRecloseTimerExpiry (n : Slot) (s : State) : Host.Outcome State Fault Refusal :=
  expiry (.recloseTimerExpiry n) (State.recloseDue n) s

/-- R91: live time counts while the condition is Connected and the acknowledged breaker is closed. -/
def Service.counting (sv : Service) : Bool := decide (sv.condition = .connected) && sv.ackClosed

/-- R91: live time reaches 600 s, and the trip count becomes 0. -/
def State.liveLimit (n : Slot) (s : State) : State :=
  match s.onLineService n with
  | some (st, sv) =>
    if sv.counting then s.setService n st { sv with live := Config.longTime, tripCount := false } else s
  | none => s

def execLiveTimeLimit (n : Slot) (s : State) : Host.Outcome State Fault Refusal :=
  expiry (.liveTimeLimit n) (State.liveLimit n) s

/-! ### Reads (R95, R96) -/

/-- R95: the lowest slot whose changed flag is set. -/
def State.firstChanged (s : State) : Option Slot := slots.find? (fun n => (s.record n).changed)

/-- R95. The answer shows the record as it stands when it is formed (DEDUCED, log 26). -/
def execNextChanged (s : State) : Host.Outcome State Fault Refusal :=
  command 0x31 promptBound (fun s =>
    match s.firstChanged with
    | some n => (s.setRecord n { s.record n with changed := false }, .reading (.record n))
    | none => (s, .plain .done)) s

/-- R96. -/
def execReadRecord (slot : Byte) (s : State) : Host.Outcome State Fault Refusal :=
  command 0x30 promptBound (slotCommand slot (fun s n => (s, .reading (.record n)))) s

end Sys2Proof.Machine
end

