-- ==== Sys2Proof/Machine/Clock.lean ====
section
/-!
DEFINITION. One microsecond on an empty queue (DESIGN CHOICE, log 1): the timebase counts (R1), every running timer and
time counts (3.5), and the commands of those that run out in this microsecond join the queue. Another event of the same
microsecond may be taken before them (R10); `expiry` in Ops.lean says what then becomes of them.
-/

namespace Sys2Proof.Machine

/-- One microsecond of a timer. A timer at 0 has run out already. -/
def countDown (t : Timer) : Timer := t.map (· - 1)

/-- The timer runs out in this microsecond. -/
def runsOut (t : Timer) : Bool := decide (t = some 1)

/-- R88, R91: one microsecond of a time that is counted up; its last microsecond before 600 s is counted by the command
of its limit (DESIGN CHOICE, log 35). -/
def countUp (t : Nat) : Nat := if t + 1 < Config.longTime then t + 1 else t

/-- R88, R91: the time reaches 600 s in this microsecond. -/
def reachesLimit (t : Nat) : Bool := decide (t + 1 = Config.longTime)

/-! ### What runs out -/

/-- R124: what the running out of the line port's turn timer is, by its phase. -/
def Phase.expiry : Phase → Option Instr
  | .transmitting => some .transmissionEnd
  | .window => some .replyWindowTimeout
  | .quiet => some .turnEnd
  | .idle => none
  | .receiving => none

/-- R175: the settled timer runs out in this microsecond. -/
def Settled.runsOut (t : Settled) : Bool := decide (t = .running 1)

/-- R90: the reclose timer of a condition. -/
def Condition.timer : Condition → Timer
  | .tripped t => t
  | .off => none
  | .connected => none
  | .shed _ _ => none
  | .isolated _ => none

/-- Commands with their conditions, those whose condition holds. -/
def chosen (l : List (Bool × Instr)) : List Instr := (l.filter Prod.fst).map Prod.snd

/-- R88, R90, R91: what runs out in one record. -/
def State.recordDue (s : State) (n : Slot) : List Instr :=
  match s.station n with
  | none => []
  | some st =>
    (match st.silence with
      | some t => chosen [(reachesLimit t, .silenceTimeLimit n)]
      | none => []) ++
    (match s.onLineService n with
      | some (_, sv) =>
        chosen
          [ (runsOut sv.condition.timer, .recloseTimerExpiry n),
            (sv.counting && reachesLimit sv.live, .liveTimeLimit n) ]
      | none => [])

/-- The commands of everything that runs out in this microsecond. -/
def State.due (s : State) : List Instr :=
  chosen
    [ (runsOut s.fmu.silence, .silenceTimerExpiry),
      (runsOut s.gate.pause, .pauseTimerExpiry),
      (runsOut s.gate.jam, .jamTimerExpiry),
      (runsOut s.water.hold, .holdTimerExpiry),
      (runsOut s.account.tick, .restoreTick),
      (runsOut s.port.gap, .replyEnd),
      (runsOut s.port.limit, .replyLengthLimit),
      (runsOut s.engine.rejoin, .rejoinIntervalExpiry),
      (runsOut s.saw.debounce, .debounceTimerExpiry),
      (runsOut s.saw.waiting, .waitingTimerExpiry),
      (runsOut s.saw.preparing, .preparingTimerExpiry),
      (runsOut s.saw.idle, .idleTimerExpiry),
      (runsOut s.saw.stuck, .stuckTimerExpiry),
      (runsOut s.prot.interval, .shedIntervalExpiry),
      (s.prot.settled.runsOut, .settledTimerExpiry),
      (runsOut s.host.timer, .responseReady) ] ++
    (if runsOut s.port.timer then s.port.phase.expiry.toList else []) ++
    slots.flatMap s.recordDue

/-! ### Counting -/

def Settled.count : Settled → Settled
  | .running n => .running (n - 1)
  | .stopped => .stopped
  | .holds => .holds

def Condition.count : Condition → Condition
  | .tripped t => .tripped (countDown t)
  | .off => .off
  | .connected => .connected
  | .shed d c => .shed d c
  | .isolated r => .isolated r

def Service.count (sv : Service) : Service :=
  { sv with
    condition := sv.condition.count
    live := if sv.counting then countUp sv.live else sv.live }

def Station.count (st : Station) : Station :=
  { st with
    silence := st.silence.map countUp
    service := if st.onLine then st.service.map Service.count else st.service }

def Record.count (r : Record) : Record := { r with station := r.station.map Station.count }

/-- Every time of the part moves on by a microsecond. -/
def State.count (s : State) : State :=
  { s with
    fmu := { s.fmu with timebase := s.fmu.timebase + 1, silence := countDown s.fmu.silence }
    gate := { s.gate with pause := countDown s.gate.pause, jam := countDown s.gate.jam }
    water := { s.water with hold := countDown s.water.hold }
    table := s.table.map Record.count
    account := { s.account with tick := countDown s.account.tick }
    port := { s.port with
      timer := countDown s.port.timer, gap := countDown s.port.gap, limit := countDown s.port.limit }
    engine := { s.engine with rejoin := countDown s.engine.rejoin }
    saw := { s.saw with
      debounce := countDown s.saw.debounce
      waiting := countDown s.saw.waiting
      preparing := countDown s.saw.preparing
      idle := countDown s.saw.idle
      stuck := countDown s.saw.stuck }
    prot := { s.prot with interval := countDown s.prot.interval, settled := s.prot.settled.count }
    host := { s.host with timer := countDown s.host.timer } }

/-- The commands of what runs out join the queue. Where more than one runs out at once, their order is free (DESIGN
CHOICE, log 3). -/
def State.enqueue (due : List Instr) (s : State) : State :=
  if due.length ≤ 1 then { s with ranOut := due, pending := s.pending ++ due }
  else
    { s with
      ranOut := due
      pending := s.pending ++ permute (Config.expiryOrder s.choices) due
      choices := s.choices + 1 }

/-- One microsecond. In a power-on or pin reset nothing counts (R184). -/
def State.tick (s : State) : State :=
  match s.resetting with
  | some _ => s
  | none => State.enqueue s.due s.count

end Sys2Proof.Machine
end

