-- ==== Sys2Proof/Machine/Protection.lean ====
section
/-!
DEFINITION. The protection unit (10_frequency_protection_and_load_shedding.md): the overspeed trip, the under-frequency count, the
shed step, the frequency-settled condition, and its commands.
-/

namespace Sys2Proof.Machine

/-! ### The shed step (R172 to R174) -/

/-- R172, R173: a record found for class c: on line, Connected, target class 1 to 3, with target or acknowledged class c. -/
def shedNamed (c : Nat) (sv : Service) : Bool :=
  decide (sv.condition = .connected) && decide (sv.cls ≠ 0) &&
    (decide (sv.cls = c) ||
      (match sv.ack with
        | some a => decide (a.cls = c)
        | none => false))

/-- The records a shed step of class c marks, with their Service fields. -/
def State.shedList (c : Nat) (s : State) : List (Slot × Service) :=
  slots.filterMap (fun n =>
    match s.onLineService n with
    | some (_, sv) => if shedNamed c sv then some (n, sv) else none
    | none => none)

/-- R172: class c qualifies. -/
def State.qualifies (s : State) (c : Nat) : Bool :=
  !(s.shedList c).isEmpty || (s.saw.hasPermit && decide (s.saw.cls = c))

/-- R172: the highest class that qualifies. -/
def State.shedClass (s : State) : Option Nat := [3, 2, 1].find? s.qualifies

/-- R139: a shed request joins the queue, or its amount is added to the entry of its class, up to 16,000. -/
def Engine.placeShed (c amount : Nat) (e : Engine) : Engine :=
  { e with sheds :=
      if e.sheds.any (fun x => decide (x.cls = c)) then
        e.sheds.map (fun x => if x.cls = c then { x with amount := min Config.feedBound (x.amount + amount) } else x)
      else e.sheds ++ [⟨c, amount⟩] }

/-- R173 step 2: the feed-forward amount. -/
def shedAmount (l : List (Slot × Service)) : Nat := min Config.feedBound (l.map (fun x => x.2.demand.getD 0)).sum

/-- R173: a shed step of class c that is carried out. -/
def State.frequencyShed (c : Nat) (s : State) : State :=
  let named := s.shedList c
  let s1 := named.foldl (fun t x => t.shedRequest true x.1) s
  let s2 := s1.withEngine (Engine.placeShed c (shedAmount named))
  let s3 := if s2.saw.cls = c then s2.sawShedOrder else s2
  { s3 with prot := { s3.prot with lastStep := some (.shed c named.length (shedAmount named)) } }

/-- R174: every shed step starts the shed interval timer and sets the UF counter to 0. -/
def State.endShedStep (s : State) : State :=
  { s with prot := { s.prot with interval := some (s.prot.shedInterval * 1000000), uf := 0 } }

/-- R172, R173: a shed step is carried out with auto-shed On and the line Running or Held. -/
def State.shedAllowed (s : State) : Bool := s.prot.auto && decide (s.engine.state ≠ .stopped)

/-- R172 to R174: the shed step. -/
def State.shedStep (s : State) : State :=
  match s.shedClass with
  | none => (({ s with prot := { s.prot with lastStep := some .deficit } }).raise .deficit).endShedStep
  | some c =>
    if s.shedAllowed then (s.frequencyShed c).endShedStep
    else (({ s with prot := { s.prot with lastStep := some (.passed c) } }).raise .underfreq).endShedStep

/-- R171: an eligible UF window with the shed interval timer not running. -/
def Protection.stepDue (p : Protection) : Bool := !p.trip && decide (p.uf = 3) && p.interval.isNone

/-- R171: the UF counter is moved, and an eligible window takes the shed step. -/
def State.countUf (under : Bool) (s : State) : State :=
  if s.prot.trip then s
  else
    let s1 := { s with prot := { s.prot with uf := if under then min 3 (s.prot.uf + 1) else 0 } }
    if s1.prot.stepDue then s1.shedStep else s1

/-! ### Completions and the other FMU events (R169, R171, R175) -/

/-- R175: the margin below f_set. -/
def settledMargin : Int := 200

/-- R175: a completion moves the settled timer. -/
def Protection.settle (good : Bool) (p : Protection) : Protection :=
  if good then
    match p.settled with
    | .stopped => { p with settled := .running Config.settledTime }
    | .running _ => p
    | .holds => p
  else { p with settled := .stopped }

/-- R169: trip onset, handed to the governor (R18) and the positioner (R51). -/
def State.tripOnset (s : State) : State :=
  let g := s.gov.tripOnset
  (State.raiseAll g.2
    { s with prot := { s.prot with trip := true, uf := 0 }, gov := g.1, gate := s.gate.setTarget 0 }).raise .trip

/-- R169: a completion begins a trip. -/
def State.tripsAt (s : State) (f : Nat) : Bool :=
  !s.prot.trip && decide (s.fset + (s.prot.tripOffset : Int) ≤ (f : Int))

/-- R171: a completion is an under-frequency window. -/
def State.underAt (s : State) (f : Nat) : Bool :=
  decide ((f : Int) < s.fset - (s.prot.ufOffset : Int)) && decide (s.gov.b = 0)

/-- The protection unit as a receiver of a completion (R9). -/
def State.protectionTake (c : Completion) (s : State) : State :=
  let s1 := { s with prot := s.prot.settle (decide (s.fset - settledMargin ≤ (c.f : Int))) }
  if s1.tripsAt c.f then s1.tripOnset else s1.countUf (s1.underAt c.f)

/-- R171, R175: a slow-period event. -/
def State.slowPeriod (s : State) : State :=
  State.countUf true { s with prot := { s.prot with settled := .stopped } }

/-- R171, R175, R10: the signal-loss event. -/
def State.signalLoss (s : State) : State :=
  ({ s with prot := { s.prot with settled := .stopped, uf := 0 } }).raise .signal

/-! ### The rows -/

/-- R171, R172: an eligible UF window with the interval timer idle takes the step (DESIGN CHOICE, log 6). -/
def execShedStep (s : State) : Host.Outcome State Fault Refusal :=
  live (settled (fun s => if s.prot.stepDue then s.shedStep else s)) s

def execShedIntervalExpiry (s : State) : Host.Outcome State Fault Refusal :=
  expiry .shedIntervalExpiry (fun s => { s with prot := { s.prot with interval := none } }) s

/-- R175. -/
def Protection.settledOver (p : Protection) : Protection :=
  match p.settled with
  | .running _ => { p with settled := .holds }
  | .stopped => p
  | .holds => p

def execSettledTimerExpiry (s : State) : Host.Outcome State Fault Refusal :=
  expiry .settledTimerExpiry (fun s => { s with prot := s.prot.settledOver }) s

/-- R170: the two refusals of TRIP CLEAR while a trip is in force. -/
def State.clearRefused (s : State) : Bool :=
  match s.fmu.state with
  | .acquiring => true
  | .tracking =>
    match s.fmu.lastF with
    | some f => decide (s.fset + 500 ≤ (f : Int))
    | none => false
  | .lost => false

/-- R170, R19. -/
def execTripClear (s : State) : Host.Outcome State Fault Refusal :=
  command 0x74 promptBound (fun s =>
    if !s.prot.trip then (s, .plain .done)
    else if s.clearRefused then (s, .plain .state)
    else
      ({ s with prot := { s.prot with trip := false }, gov := { s.gov with reseed := true } }, .plain .done)) s

/-- R176: the offsets and the interval are in range. -/
def protInRange (tripOffset ufOffset : Half) (interval : Byte) : Bool :=
  decide (2000 ≤ tripOffset.toNat ∧ tripOffset.toNat ≤ 8000) &&
    decide (300 ≤ ufOffset.toNat ∧ ufOffset.toNat ≤ 3000) &&
    decide (1 ≤ interval.toNat ∧ interval.toNat ≤ 10)

/-- R176, R37: f_set, given as its value less 40,000, is clamped to nominal ± 1,000 and held as an offset. FFFFh is
taken as 65,535 (DESIGN CHOICE, log 53). -/
def State.offsetOf (s : State) (fset : Half) : Int := clampInt (-1000) 1000 ((fset.toNat : Int) + 40000 - s.nominal)

/-- R176. -/
def execProtSet (fset tripOffset ufOffset : Half) (interval : Byte) (s : State) :
    Host.Outcome State Fault Refusal :=
  command 0x71 promptBound (fun s =>
    if s.prot.lock then (s, .plain .locked)
    else if !protInRange tripOffset ufOffset interval then (s, .plain .range)
    else
      ({ s with
        gov := { s.gov with offset := s.offsetOf fset }
        prot := { s.prot with
          tripOffset := tripOffset.toNat
          ufOffset := ufOffset.toNat
          shedInterval := interval.toNat } }, .plain .done)) s

/-- R177. -/
def execProtLock (s : State) : Host.Outcome State Fault Refusal :=
  command 0x72 promptBound (fun s => ({ s with prot := { s.prot with lock := true } }, .plain .done)) s

/-- R177, R181: a mode outside 00h and 01h is out of range. -/
def execShedMode (mode : Byte) (s : State) : Host.Outcome State Fault Refusal :=
  command 0x73 promptBound (fun s =>
    match flagOf mode with
    | none => (s, .plain .range)
    | some on => ({ s with prot := { s.prot with auto := on } }, .plain .done)) s

def execProtRead (s : State) : Host.Outcome State Fault Refusal :=
  command 0x70 promptBound (fun s => (s, .reading .protection)) s

end Sys2Proof.Machine
end

