-- ==== Sys2Proof/Machine/Frequency.lean ====
section
/-!
DEFINITION. The frequency measurement unit (01_frequency_measurement.md): crossings, periods, windows, and what a window
completion does in the four blocks that take it.
-/

namespace Sys2Proof.Machine

/-! ### The receivers of a completion (R9, R15) -/

inductive Receiver where
  | governor
  | positioner
  | saw
  | protection
  deriving DecidableEq, Repr

def receivers : List Receiver := [.governor, .positioner, .saw, .protection]

/-- One receiver takes a completion. `prev` are the bank outputs in force up to it (R16). -/
def State.take (prev : Vector Bool 8) (sense : BitVec 8) (c : Completion) (s : State) : Receiver → State
  | .governor => s.governorTake prev sense c
  | .positioner => s.positionerTake
  | .saw => s.sawTake
  | .protection => s.protectionTake c

/-- The receivers take a completion in a given order. -/
def State.offer (order : List Receiver) (sense : BitVec 8) (c : Completion) (s : State) : State :=
  order.foldl (State.take s.gov.outputs sense c) s

/-- R9: the receivers take the completion independently; their order is left open (DESIGN CHOICE, log 4). -/
def State.complete (sense : BitVec 8) (c : Completion) (s : State) : State :=
  State.offer (permute (Config.receiverOrder s.choices) receivers) sense c { s with choices := s.choices + 1 }

/-! ### Periods and windows (R3 to R7) -/

/-- R7: the frequency computed from a window sum. -/
def rawFrequency (w : Nat) : Nat := 4000000000 / w

/-- R7: the frequency carried. -/
def carriedFrequency (w : Nat) : Nat := clampNat 40000 70000 (rawFrequency w)

/-- R7: the range flag. -/
def rangeFlag (w : Nat) : RangeFlag :=
  if rawFrequency w < 40000 then .below
  else if 70000 < rawFrequency w then .above
  else .inRange

/-- R5: the completion a window sum gives. -/
def completionOf (w : Nat) (st : FmuState) : Completion :=
  ⟨carriedFrequency w, rangeFlag w, decide (st = .acquiring)⟩

/-- R3: the classes of a period. -/
inductive PeriodClass where
  | glitch
  | accepted
  | slow
  deriving DecidableEq, Repr

def classify (period : Nat) : PeriodClass :=
  if period < 6000 then .glitch
  else if period ≤ 33333 then .accepted
  else .slow

/-- R3: the period of a crossing, modulo 2^24. -/
def periodOf (t r : BitVec 24) : Nat := (t - r).toNat

/-- R5: an accepted period enters the window; the fourth ends it. -/
def State.accept (sense : BitVec 8) (t : BitVec 24) (period : Nat) (s : State) : State :=
  let w := s.fmu.window ++ [period]
  if w.length < 4 then { s with fmu := { s.fmu with reference := some t, window := w } }
  else
    let c := completionOf w.sum s.fmu.state
    settled (State.complete sense c)
      { s with fmu := { s.fmu with
          reference := some t
          window := []
          lastF := some c.f
          flag := c.flag
          state := .tracking } }

/-- R6: a slow period. -/
def State.slow (t : BitVec 24) (s : State) : State :=
  settled State.slowPeriod
    { s with fmu := { s.fmu with reference := some t, window := [], state := .acquiring } }

/-- R3: a crossing with a reference present. -/
def State.measure (sense : BitVec 8) (t r : BitVec 24) (s : State) : State :=
  match classify (periodOf t r) with
  | .glitch => s
  | .accepted => s.accept sense t (periodOf t r)
  | .slow => s.slow t

/-- R2, R11: a rising crossing. The capture register takes the timebase, and the silence timer is restarted. -/
def State.crossing (sense : BitVec 8) (s : State) : State :=
  let t := s.fmu.timebase
  let s1 := { s with fmu := { s.fmu with silence := some Config.silenceTime } }
  match s.fmu.state, s.fmu.reference with
  | .lost, _ => { s1 with fmu := { s1.fmu with reference := some t, window := [], state := .acquiring } }
  | _, none => { s1 with fmu := { s1.fmu with reference := some t } }
  | _, some r => s1.measure sense t r

/-- R10: the silence timer runs out. -/
def State.silenceOver (s : State) : State :=
  match s.fmu.state with
  | .lost => s
  | _ => State.signalLoss
      { s with fmu := { s.fmu with state := .lost, window := [], reference := none, silence := none } }

def execRisingCrossing (sense : BitVec 8) (s : State) : Host.Outcome State Fault Refusal :=
  live (State.crossing sense) s

def execSilenceTimerExpiry (s : State) : Host.Outcome State Fault Refusal := expiry .silenceTimerExpiry State.silenceOver s

end Sys2Proof.Machine
end

