-- ==== Sys2Proof/Machine/HostPort.lean ====
section
/-!
DEFINITION. The command port (11_command_port_and_message_formats.md): the status byte, the payload of every read (R186,
11.6.4), the frames given on MISO, and the rows of the port itself. R186 fixes the layouts that 11.6.4 does not spell
out (DESIGN CHOICE, log 23).
-/

namespace Sys2Proof.Machine

/-! ### Encodings (R186) -/

/-- One byte, plain. -/
def byteOf (n : Nat) : Byte := BitVec.ofNat 8 n

/-- A flag. -/
def flagByte (b : Bool) : Byte := if b then 1 else 0

/-- Two bytes, plain. -/
def plain (n : Nat) : List Byte := halfBytes (BitVec.ofNat 16 n)

/-- A quantity or a time that may be absent. -/
def plainOr : Option Nat → List Byte
  | some n => plain n
  | none => [0xFF, 0xFF]

/-- A one-byte item that may be absent. -/
def byteOr : Option Nat → Byte
  | some n => byteOf n
  | none => 0xFF

/-- Four bytes, signed. -/
def signed (x : Int) : List Byte := wordBytes (BitVec.ofInt 32 x)

def signedOr : Option Int → List Byte
  | some x => signed x
  | none => [0x80, 0x00, 0x00, 0x00]

/-- A frequency: the value less 40,000. -/
def frequency (f : Int) : List Byte := halfBytes (BitVec.ofInt 16 (f - 40000))

/-- A time remaining, in whole seconds rounded up. -/
def remaining (t : Timer) : List Byte := plainOr (t.map secondsUp)

/-- Bits packed into one byte: each value at its place. -/
def packed (fields : List (Nat × Nat)) : Byte := byteOf (fields.map (fun f => f.1 * 2 ^ f.2)).sum

/-- A flag as the value of a bit. -/
def bitOf (b : Bool) : Nat := if b then 1 else 0

/-- A field with every byte FFh. -/
def allOnes (n : Nat) : List Byte := List.replicate n 0xFF

/-- The bytes of a value that is absent and whose absence is shown beside it: free (DESIGN CHOICE, log 24). -/
def unspecified (n : Nat) : List Byte := (List.range n).map Config.absentByte

/-- R186: a serial shown absent beside it. -/
def serialOr : Option Serial → List Byte
  | some x => wordBytes x
  | none => unspecified 4

/-- The places of a collection of fixed capacity, unused ones all FFh. -/
def places {α : Type} (capacity width : Nat) (f : α → List Byte) (l : List α) : List Byte :=
  (l.take capacity).flatMap f ++ allOnes ((capacity - l.length) * width)

/-! ### Enumerations, numbered in the order of their definition (R186) -/

def ResetKind.number : ResetKind → Nat
  | .powerOn => 0
  | .pin => 1

def FmuState.number : FmuState → Nat
  | .acquiring => 0
  | .tracking => 1
  | .lost => 2

def RangeFlag.number : RangeFlag → Nat
  | .inRange => 0
  | .below => 1
  | .above => 2

def BankState.number : BankState → Nat
  | .absent => 0
  | .ready => 1
  | .failed _ => 2
  | .disabled => 3
  | .checking => 4

/-- The failure reason, absent unless Failed. -/
def BankState.reason : BankState → Option Nat
  | .failed .openCircuit => some 0
  | .failed .stuck => some 1
  | .absent => none
  | .ready => none
  | .disabled => none
  | .checking => none

/-- The last check result is None, Pass, Fail or NotExercised (2.2). -/
def checkResultNumber : Option CheckResult → Nat
  | none => 0
  | some .pass => 1
  | some .fail => 2
  | some .notExercised => 3

def Drive.number : Drive → Nat
  | .stopped => 0
  | .opening => 1
  | .closing => 2
  | .pausing => 3
  | .jammed _ => 4

/-- The jam cause, absent unless Jammed. -/
def Drive.cause : Drive → Option Nat
  | .jammed .stall => some 0
  | .jammed .switches => some 1
  | .stopped => none
  | .opening => none
  | .closing => none
  | .pausing => none

def LevelSource.number : LevelSource → Nat
  | .absent => 0
  | .waiting => 1
  | .live => 2
  | .holding => 3
  | .lost => 4

def Condition.number : Condition → Nat
  | .off => 0
  | .connected => 1
  | .shed _ _ => 2
  | .tripped _ => 3
  | .isolated _ => 4

def Life.number : Life → Nat
  | .provisioned => 1
  | .enrolled => 2
  | .retiring => 3

def MuteErrand.number : MuteErrand → Nat
  | .idle => 0
  | .wanted => 1
  | .queued => 2

def EngineState.number : EngineState → Nat
  | .stopped => 0
  | .running => 1
  | .held => 2

def Origin.number : Origin → Nat
  | .claim => 0
  | .roll => 1

def EnrolKind.number : EnrolKind → Nat
  | .byHost => 0
  | .automatic => 1

def Ending.number : Ending → Nat
  | .complete => 0
  | .stopped => 1

/-- Inactive, Active, or Active with restart pending (8.2). -/
def Enrolment.number : Enrolment → Nat
  | .inactive => 0
  | .active _ false => 1
  | .active _ true => 2

/-- The enrollment kind, absent while Inactive. -/
def Enrolment.kindNumber : Enrolment → Option Nat
  | .active k _ => some k.number
  | .inactive => none

def SawState.number : SawState → Nat
  | .idle => 0
  | .waiting => 1
  | .preparing => 2
  | .released => 3
  | .cutting => 4
  | .closing => 5
  | .fault => 6

def SawEvent.number : SawEvent → Nat
  | .refused => 0
  | .noSurplus => 1
  | .shed => 2
  | .unreleased => 3
  | .stuckClutch => 4
  | .clutchFreed => 5

/-- 11.6.2: the result codes. -/
def Result.value : Result → Byte
  | .done => 0x00
  | .started => 0x01
  | .busy => 0x02
  | .refused => 0x03
  | .noplan => 0x04
  | .state => 0x05
  | .range => 0x06
  | .locked => 0x07
  | .full => 0x08
  | .duplicate => 0x09
  | .frame => 0x0A
  | .notReady => 0x0B

/-! ### The reads -/

/-- R38: one bank's rating, state, failure reason and output, the output as a flag, 01h for on (DESIGN CHOICE, log 40). -/
def Bank.bytes (b : Bank) : List Byte :=
  plain b.rating ++ [byteOf b.state.number, byteOr b.state.reason, flagByte b.on]

/-- R38. -/
def State.governorPayload (s : State) : List Byte :=
  let g := s.gov
  plain g.b ++ plain g.bs ++ signed (g.bFine : Int) ++ plain g.carry ++ signed g.ff ++
    plain g.bCap ++ plainOr g.rMin ++ plain g.kp ++ plain g.ki ++ frequency s.fset ++
    g.banks.toList.flatMap Bank.bytes ++
    (match g.check with
      | some c => [byteOf c.bank.val, byteOf c.windows, flagByte c.chosen]
      | none => allOnes 3) ++
    [byteOr (g.lastCheck.map (fun r => r.1.val)), byteOf (checkResultNumber (g.lastCheck.map Prod.snd))]

/-- R55. The end switch inputs are flags (DESIGN CHOICE, log 46), GATE_SHUT first (DESIGN CHOICE, log 47). -/
def State.gatePayload (s : State) : List Byte :=
  let g := s.gate
  plain g.p ++ [flagByte g.calibrated] ++ plain g.target ++ plain s.water.ceiling ++
    [byteOf g.drive.number, byteOr g.drive.cause, flagByte g.shut, flagByte g.full] ++
    plain g.float ++ plain g.deadband ++ plain s.floatTarget

/-- R67: every band's threshold, ceiling and capacity. -/
def Band.bytes (b : Band) : List Byte := plain b.threshold ++ plain b.ceiling ++ plain b.capacity

/-- R67. The loaded bands alone are given, and an absent plan has a count byte FFh and no bands (DESIGN CHOICE, log 41). The
presence of a plan is a flag (DESIGN CHOICE, log 46). -/
def State.planPayload (s : State) : List Byte :=
  let w := s.water
  (match w.plan with
    | some p => [flagByte true, byteOf p.bands.length] ++ p.bands.flatMap Band.bytes ++ [byteOf p.inForce]
    | none => [flagByte false, 0xFF, 0xFF]) ++
    plainOr w.capacity ++ plain w.ceiling ++ [byteOf w.source.number] ++ plainOr w.level ++ remaining w.hold

/-- The Service fields that count from enrollment on (5.2). -/
def Station.conditionOf (st : Station) : Option Service := if st.onLine then st.service else none

/-- 11.6.4 byte 18: the shed flags, the trip reason and the trip count. -/
def Service.flagsByte (sv : Service) : Byte :=
  match sv.condition with
  | .shed d c => packed [(bitOf d.isSome, 0), (bitOf c, 1), (bitOf sv.tripCount, 7)]
  | .tripped _ => packed [(1, 4), (bitOf sv.tripCount, 7)]
  | .isolated .overcurrent => packed [(1, 4), (bitOf sv.tripCount, 7)]
  | .isolated .leakage => packed [(2, 4), (bitOf sv.tripCount, 7)]
  | .off => packed [(bitOf sv.tripCount, 7)]
  | .connected => packed [(bitOf sv.tripCount, 7)]

/-- Demand-at-shed, present with the Frequency flag. -/
def Condition.demandAtShed : Condition → Option Nat
  | .shed d _ => d
  | .off => none
  | .connected => none
  | .tripped _ => none
  | .isolated _ => none

/-- 11.6.4 byte 23: the reclose timer, FEh for reclose due. -/
def Condition.recloseByte : Condition → Byte
  | .tripped (some t) => byteOf (secondsUp t)
  | .tripped none => 0xFE
  | .off => 0xFF
  | .connected => 0xFF
  | .shed _ _ => 0xFF
  | .isolated _ => 0xFF

/-- 11.6.4 byte 1. -/
def Record.headByte (r : Record) : Byte :=
  match r.station with
  | none => packed [(bitOf r.changed, 2)]
  | some st =>
    packed
      [ (st.life.number, 0), (bitOf r.changed, 2), (bitOf (decide (st.kind = .gauge)), 3),
        (match st.service with
          | some sv => bitOf sv.connectOnEnrol
          | none => 0, 4),
        (bitOf st.pushPending, 5),
        (match st.conditionOf with
          | some sv => bitOf sv.pushDeferred
          | none => 0, 6),
        (match st.service with
          | some sv => bitOf (sv.staged.any Staged.deferred)
          | none => 0, 7) ]

/-- 11.6.4 bytes 8 and 14: a class with a breaker. -/
def settingsByte (closed : Bool) (cls : Nat) : Byte := packed [(cls, 0), (bitOf closed, 4)]

/-- 11.6.4 bytes 6 to 16: target, plan, acknowledged settings and last demand. -/
def Station.settingsBytes (st : Station) : List Byte :=
  match st.service with
  | none => allOnes 11
  | some sv =>
    plain sv.limit ++ [settingsByte st.targetClosed sv.cls] ++
      plainOr (sv.staged.map Staged.limit) ++ [byteOr (sv.staged.map Staged.cls)] ++
      plainOr (sv.ack.map Settings.limit) ++
      [match sv.ack with
        | some a => settingsByte a.closed a.cls
        | none => 0xFF] ++
      plainOr sv.demand

/-- 11.6.4 bytes 17 to 23: the condition with its companions. -/
def Station.conditionBytes (st : Station) : List Byte :=
  match st.conditionOf with
  | none => allOnes 7
  | some sv =>
    [byteOf sv.condition.number, sv.flagsByte] ++ plainOr sv.condition.demandAtShed ++
      plain (secondsDown sv.live) ++ [sv.condition.recloseByte]

/-- 11.6.4 bytes 24 to 26: the link. -/
def Station.linkBytes (st : Station) : List Byte :=
  if st.onLine then
    packed [(bitOf st.silence.isSome, 0), (st.missed, 1), (st.mute.number, 4)] :: plainOr (st.silence.map secondsDown)
  else allOnes 3

/-- R96, 11.6.4. A Vacant record has bytes 0 and 1 only. -/
def State.recordPayload (n : Slot) (s : State) : List Byte :=
  [byteOf n.val, (s.record n).headByte] ++
    (match s.station n with
      | none => []
      | some st =>
        wordBytes st.serial ++ st.settingsBytes ++ st.conditionBytes ++ st.linkBytes ++ plain (s.record n).share)

/-- 11.6.4 bytes 17 to 22 of ACCOUNT READ. -/
def applyBytes : Option Apply → List Byte
  | none => allOnes 6
  | some a =>
    [a.scope, byteOf a.marks.length, byteOf a.deferred, byteOf (a.count .pending), byteOf (a.count .confirmed),
      byteOf (a.count .unconfirmed)]

/-- R117, 11.6.4. -/
def State.accountPayload (s : State) : List Byte :=
  let a := s.account
  [packed [(bitOf s.water.plan.isSome, 0), (bitOf a.isOver, 1), (bitOf a.unresolvable, 2), (bitOf a.apply.isSome, 3),
      (bitOf a.last.isSome, 4)]] ++
    plainOr s.water.capacity ++ plain a.reserve ++ signed (s.committed : Int) ++ signed (s.intended : Int) ++
    signedOr s.headroom ++ applyBytes a.apply ++
    (match a.last with
      | some l => [byteOf l.changed, byteOf l.deferred, byteOf l.unconfirmed]
      | none => allOnes 3) ++
    [byteOr (a.tick.map secondsUp)]

def ShedEntry.bytes (e : ShedEntry) : List Byte := byteOf e.cls :: plain e.amount

/-- R154: kind, serial, and for ASSIGN the station number, origin and attempts. -/
def Errand.bytes : Errand → List Byte
  | .assign x n o a => [0x00] ++ wordBytes x ++ [stationNumber n, byteOf o.number, byteOf a]
  | .mute x => [0x01] ++ wordBytes x ++ allOnes 3

def EnrolCounts.bytes (c : EnrolCounts) : List Byte :=
  [byteOf c.matched, byteOf c.strays, byteOf c.dropped, byteOf c.duplicates]

/-- R186: the prefix on top of the stack; with an empty stack the depth shows its absence. -/
def topBytes : List Prefix → List Byte
  | p :: _ => byteOf p.len :: wordBytes p.bits
  | [] => unspecified 5

/-- R154. -/
def State.linePayload (s : State) : List Byte :=
  let e := s.engine
  [byteOf e.state.number, flagByte e.fresh, flagByte e.stopping] ++
    places 3 3 ShedEntry.bytes e.sheds ++ places 4 8 Errand.bytes e.errands ++
    [byteOf e.cursor.val, flagByte e.lastRoll, byteOf e.hold.length] ++
    [byteOf e.enrolment.number, byteOr e.enrolment.kindNumber, byteOf e.stack.length] ++ topBytes e.stack ++
    e.counts.bytes ++
    (match e.lastReport with
      | some r => [byteOf r.kind.number, byteOf r.ending.number] ++ r.counts.bytes
      | none => allOnes 6) ++
    [byteOf e.strays.length, flagByte e.overflow, byteOf e.abandoned] ++ serialOr e.lastAbandoned ++ remaining e.rejoin

/-- R153: the stray list, the number of serials in it, and the overflow mark. -/
def State.straysPayload (s : State) : List Byte :=
  places 8 4 wordBytes s.engine.strays ++ [byteOf s.engine.strays.length, flagByte s.engine.overflow]

/-- R167: the timer of the saw's state that is running. -/
def Saw.runningTimer (w : Saw) : Timer := w.waiting <|> w.preparing <|> w.idle <|> w.stuck

/-- R167. The latch output is a flag, 01h for energised, and the clutch state an enumeration, Engaged before Disengaged as in 9.2
(DESIGN CHOICE, log 46). -/
def State.sawPayload (s : State) : List Byte :=
  let w := s.saw
  [byteOf w.state.number] ++ plainOr w.draw ++ plain w.reserved ++ plain w.engaged ++ plain w.nominal ++
    [byteOf w.cls, if w.clutch then 0 else 1, flagByte w.latch] ++ remaining w.runningTimer ++
    [byteOr (w.lastEvent.map SawEvent.number)]

/-- R178: the settled timer, while it runs. -/
def Settled.left : Settled → Timer
  | .running t => some t
  | .stopped => none
  | .holds => none

/-- R178: outcome, class, records marked, feed-forward amount. A Deficit has neither records nor an amount (DESIGN CHOICE,
log 51). -/
def lastStepBytes : Option ShedOutcome → List Byte
  | some (.shed c n amount) => [0x00, byteOf c, byteOf n] ++ plain amount
  | some (.passed c) => [0x01, byteOf c] ++ allOnes 3
  | some .deficit => 0x02 :: allOnes 4
  | none => allOnes 5

/-- R178. Whether the frequency-settled condition holds is a flag, 01h for holds (DESIGN CHOICE, log 46). -/
def State.protectionPayload (s : State) : List Byte :=
  let p := s.prot
  frequency s.fset ++ plain p.tripOffset ++ plain p.ufOffset ++
    [byteOf p.shedInterval, flagByte p.auto, flagByte p.lock, flagByte p.trip, byteOf p.uf] ++
    remaining p.interval ++ [flagByte s.isSettled] ++ remaining p.settled.left ++ lastStepBytes p.lastStep

/-- R183: vendor, part, revision and the seven capacities. -/
def identPayload : List Byte := [0x45, 0x44, 0x05, 0x07, 1, 64, 8, 8, 8, 4, 3, 33]

/-- R183, 11.6.4. -/
def State.statusPayload (s : State) : List Byte :=
  [byteOf s.startCause.number, packed [(bitOf s.prot.lock, 0), (bitOf s.sixty, 1)],
    packed [(s.fmu.state.number, 0), (s.fmu.flag.number, 2)]] ++
    (match s.fmu.lastF with
      | some f => frequency (f : Int)
      | none => allOnes 2) ++
    [packed [(s.gate.drive.number, 0), (bitOf s.gate.calibrated, 3)]]

/-- The payload of a read, as the state stands. -/
def Reading.payload (s : State) : Reading → List Byte
  | .governor => s.governorPayload
  | .gate => s.gatePayload
  | .plan => s.planPayload
  | .record n => s.recordPayload n
  | .account => s.accountPayload
  | .line => s.linePayload
  | .strays => s.straysPayload
  | .saw => s.sawPayload
  | .protection => s.protectionPayload
  | .attention => halfBytes s.attn
  | .ident => identPayload
  | .status => s.statusPayload

/-! ### Responses (R180, R181, 11.6.2) -/

/-- The response a command's answer becomes, as the state stands when it is formed; so for ATTN READ and STRAYS READ too, whose
rules are silent (DESIGN CHOICE, log 54). -/
def Forming.response (s : State) (f : Forming) : Response :=
  match f.reply with
  | .fixed r payload => ⟨r, f.echo, payload⟩
  | .reading what => ⟨.done, f.echo, what.payload s⟩

/-- 11.6.2: the frame of a response, with the check byte that brings its sum to 0 modulo 256. -/
def Response.frame (r : Response) : List Byte :=
  let head := [r.result.value, r.echo, byteOf r.payload.length] ++ r.payload
  head ++ [- byteSum head]

/-- 11.6.2: the status byte, with the response-ready bit given. -/
def State.statusByte (ready : Bool) (s : State) : Byte :=
  packed
    [ (bitOf (decide (s.attn ≠ 0)), 7), (bitOf s.prot.trip, 6), (bitOf s.account.apply.isSome, 5),
      (bitOf s.engine.enrolment.isActive, 4), (s.engine.state.number, 2), (bitOf s.account.isOver, 1),
      (bitOf ready, 0) ]

/-- R180, R181: CS# falls. The status byte and a response frame are loaded: the one in the buffer, or NOT READY with the code
still being taken. -/
def State.beginTransaction (s : State) : State :=
  match s.host.transaction, s.host.forming with
  | some _, _ => s
  | none, none =>
    { s with host := { s.host with
        transaction := some ⟨s.statusByte true :: s.host.buffer.frame, false⟩ } }
  | none, some f =>
    { s with host := { s.host with
        transaction := some ⟨s.statusByte false :: (Response.frame ⟨.notReady, f.echo, []⟩), true⟩ } }

/-- R180: the bytes given on MISO in the transaction in progress, the n-th counted from 0; 00h after the response frame
(DESIGN CHOICE, log 38). -/
def Transaction.miso (t : Transaction) (n : Nat) : Byte := t.out.getD n 0

/-- R180: the bit given on MISO in the k-th cycle of SCK, counted from 0, the most significant bit of a byte first. -/
def Transaction.misoBit (t : Transaction) (k : Nat) : Bool := (t.miso (k / 8)).getMsbD (k % 8)

/-- R180: the level of MISO in the k-th cycle of SCK; none is its high impedance while CS# is high. -/
def State.misoPin (k : Nat) (s : State) : Option Bool := s.host.transaction.map (fun t => t.misoBit k)

/-- R181: the response is formed and takes its place in the buffer. -/
def State.formResponse (s : State) : State :=
  match s.host.forming with
  | some f => { s with host := { s.host with buffer := f.response s, forming := none, timer := none } }
  | none => s

/-- R181: a frame that fails a check is answered FRAME, with its first byte echoed; a transaction without a whole byte
is ignored (R180, DEDUCED, log 27), and so is a bad frame in a NOT READY transaction. A good frame only ends the
transaction (DESIGN CHOICE, log 34). -/
def State.frameError (mosi : List Bool) (s : State) : State :=
  if s.host.refuses || !frameFails (shiftedIn mosi) then s.closeTransaction
  else
    match shiftedIn mosi with
    | [] => s.closeTransaction
    | code :: _ => s.answer code promptBound (.plain .frame)

/-! ### The rows -/

def execTransactionStart (s : State) : Host.Outcome State Fault Refusal := live State.beginTransaction s

def execNoOp (s : State) : Host.Outcome State Fault Refusal :=
  command 0x00 promptBound (fun s => (s, .plain .done)) s

def execCommandFrameError (mosi : List Bool) (s : State) : Host.Outcome State Fault Refusal :=
  live (State.frameError mosi) s

/-- R181: the command shifted in is refused and has no response of its own; the transaction ends. -/
def execNotReadyRefusal (s : State) : Host.Outcome State Fault Refusal := live State.closeTransaction s

def execResponseReady (s : State) : Host.Outcome State Fault Refusal := expiry .responseReady State.formResponse s

/-- R182. -/
def execAttnRead (s : State) : Host.Outcome State Fault Refusal :=
  command 0x03 promptBound (fun s => (s, .reading .attention)) s

/-- R182. -/
def execAttnClear (mask : Half) (s : State) : Host.Outcome State Fault Refusal :=
  command 0x04 promptBound (fun s => (s.clearAttn mask, .plain .done)) s

/-- R183. -/
def execIdent (s : State) : Host.Outcome State Fault Refusal :=
  command 0x01 promptBound (fun s => (s, .reading .ident)) s

/-- R183. -/
def execStatus (s : State) : Host.Outcome State Fault Refusal :=
  command 0x02 promptBound (fun s => (s, .reading .status)) s

end Sys2Proof.Machine
end

