-- ==== Sys2Proof/Machine/LineEngine.lean ====
section
/-!
DEFINITION. The rows of the line engine (08_line_engine_and_enrollment.md): the LINE and ENROL commands, the stray list, and the
engine's own steps.
-/

namespace Sys2Proof.Machine

/-! ### LINE START, HOLD, RESUME, STOP (R136 to R138) -/

/-- R136: the restart mark is removed, and the stack holds the empty prefix alone. -/
def Engine.restart (e : Engine) : Engine :=
  match e.enrolment with
  | .active k true => { e with stack := [.empty], enrolment := .active k false }
  | .active _ false => e
  | .inactive => e

/-- R136. -/
def Engine.start (e : Engine) : Option Engine × Result :=
  match e.state with
  | .stopped => (some { e.restart with state := .running }, .done)
  | .running => (none, .state)
  | .held => (none, .state)

/-- R137. -/
def Engine.holdLine (e : Engine) : Option Engine × Result :=
  match e.state with
  | .stopped => (none, .state)
  | .running => (some { e with state := .held }, .done)
  | .held => (none, .done)

/-- R137. -/
def Engine.resume (e : Engine) : Option Engine × Result :=
  match e.state with
  | .stopped => (none, .state)
  | .running => (none, .done)
  | .held => (some { e with state := .running }, .done)

/-- A command on the engine state; the turn choice follows at the event's end. Without a new engine nothing changes. -/
def engineCommand (f : Engine → Option Engine × Result) (s : State) : State × Reply :=
  (match (f s.engine).1 with
    | some e => settled (fun s => { s with engine := e }) s
    | none => s, .plain (f s.engine).2)

/-- R138: the engine is Stopped at once; the stop completes now, or at the end of the turn in flight (DEDUCED, log 21). -/
def State.stopLine (s : State) : State :=
  if s.port.phase = .idle then
    (s.withEngine (fun e => { e with state := .stopped })).completeStop
  else s.withEngine (fun e => { e with state := .stopped, stopping := true })

def execLineStart (s : State) : Host.Outcome State Fault Refusal :=
  command 0x51 promptBound (engineCommand Engine.start) s

def execLineHold (s : State) : Host.Outcome State Fault Refusal :=
  command 0x52 promptBound (engineCommand Engine.holdLine) s

def execLineResume (s : State) : Host.Outcome State Fault Refusal :=
  command 0x53 promptBound (engineCommand Engine.resume) s

def execLineStop (s : State) : Host.Outcome State Fault Refusal :=
  command 0x54 promptBound (fun s =>
    (if s.engine.state = .stopped then s else settled State.stopLine s, .plain .done)) s

/-- R138 (DESIGN CHOICE, log 6). -/
def execLineStopCompletion (s : State) : Host.Outcome State Fault Refusal :=
  live (settled (fun s =>
    if s.engine.stopping = true ∧ s.port.phase = .idle then s.completeStop else s)) s

/-! ### Turns and errands (R141, R143) -/

def execTurnChoice (s : State) : Host.Outcome State Fault Refusal := live State.chooseTurn s

/-- R143: the queued ASSIGN of a serial that has been missed twice before. -/
def Engine.lastTry (e : Engine) (x : Serial) : Option Slot :=
  e.errands.findSome? (fun r =>
    match r with
    | .assign y n _ a => if y = x ∧ 2 ≤ a then some n else none
    | .mute _ => none)

/-- R143: an ASSIGN is missed for the third time (DESIGN CHOICE, log 6). -/
def State.abandonSerial (x : Serial) (s : State) : State :=
  match s.engine.lastTry x with
  | some n => s.abandon x n
  | none => s

def execAssignAbandoned (x : Serial) (s : State) : Host.Outcome State Fault Refusal :=
  live (settled (State.abandonSerial x)) s

/-! ### Enrollment (R146, R150, R151) -/

/-- R146. -/
def execEnrolStart (s : State) : Host.Outcome State Fault Refusal :=
  command 0x55 promptBound (fun s =>
    if s.engine.enrolment.isActive then (s, .plain .state)
    else (settled (fun s => s.withEngine (Engine.beginEnrolment .byHost)) s, .plain .started)) s

/-- R150: an Active enrollment ends with the ending Stopped, and the stack is emptied. -/
def Engine.stopEnrol (e : Engine) : Engine :=
  match e.enrolment with
  | .active k _ => { e.endEnrolment k .stopped with stack := [] }
  | .inactive => e

def execEnrolStop (s : State) : Host.Outcome State Fault Refusal :=
  command 0x56 promptBound (fun s =>
    (if s.engine.enrolment.isActive then settled (fun s => s.withEngine Engine.stopEnrol) s else s, .plain .done)) s

def execAutomaticEnrollment (s : State) : Host.Outcome State Fault Refusal := live (settled State.autoEnrol) s

def execRejoinIntervalExpiry (s : State) : Host.Outcome State Fault Refusal :=
  expiry .rejoinIntervalExpiry (settled (fun s => s.withEngine (fun e => { e with rejoin := none }))) s

/-! ### Strays and reading (R153, R154) -/

def execStraysRead (s : State) : Host.Outcome State Fault Refusal :=
  command 0x57 promptBound (fun s => (s, .reading .strays)) s

/-- R153. -/
def Engine.dropStray (x : Serial) (e : Engine) : Engine :=
  { e with strays := e.strays.filter (fun y => decide (y ≠ x)), overflow := false }

def execStrayDrop (x : Serial) (s : State) : Host.Outcome State Fault Refusal :=
  command 0x58 promptBound (fun s =>
    if s.engine.strays.contains x then (s.withEngine (Engine.dropStray x), .plain .done)
    else (s, .plain .state)) s

def execLineRead (s : State) : Host.Outcome State Fault Refusal :=
  command 0x50 promptBound (fun s => (s, .reading .line)) s

end Sys2Proof.Machine
end

