-- ==== Sys2Proof/Machine/LineTurns.lean ====
section
/-!
DEFINITION. The rows of the line port (07_the_field_line.md 7.5): the phases of a turn, with the sent events and outcomes they hand to
the line engine.
-/

namespace Sys2Proof.Machine

/-! ### The driver (R119, R134) -/

/-- R119, 7.5: the driver is enabled exactly while the line port is Transmitting. -/
def LinePort.driver (p : LinePort) : Bool := decide (p.phase = .transmitting)

/-- R119: the level the part drives on the line, true for a mark: the bit of its frame whose time it is. With the driver
released the part drives nothing, and the external bias holds the line at mark unless a station speaks. -/
def LinePort.driven (p : LinePort) : Option Bool :=
  match p.turn, p.timer with
  | some t, some left =>
    if p.driver then
      some (t.message.bits.getD ((frameTime t.message.frame.length - left) * 8 / bitPeriods) true)
    else none
  | some _, none => none
  | none, _ => none

/-! ### The phases -/

/-- R124: the line port enters Quiet. The reply is over, and its characters are discarded (R134). -/
def LinePort.toQuiet (p : LinePort) : LinePort :=
  { p with
    phase := .quiet, reply := [], framing := false, timer := some Config.quietTime, gap := none, limit := none }

/-- The outcome of the turn in flight, unless a supply reset has voided the turn (R126, R128). -/
def State.handOutcome (h : Heard) (s : State) : State :=
  match s.port.turn with
  | some t => if t.void then s else s.outcome t h
  | none => s

/-- The sent event of the turn in flight, unless void (R125, R128). -/
def State.handSent (s : State) : State :=
  match s.port.turn with
  | some t => if t.void then s else s.sent t.message
  | none => s

/-- The message of the turn in flight calls for a reply. -/
def LinePort.awaitsReply (p : LinePort) : Bool :=
  match p.turn with
  | some t => t.message.expectsReply
  | none => false

/-- R124, R125: the last stop bit of the frame. -/
def State.transmissionOver (s : State) : State :=
  match s.port.phase with
  | .transmitting =>
    if s.port.awaitsReply then
      { s with port := { s.port with phase := .window, timer := some Config.windowTime } }
    else State.handSent { s with port := s.port.toQuiet }
  | _ => s

/-- R119, R124: a start bit is recognised; it is taken in the reply window and in a reply. The gap timer runs out 3 ms after
the stop bit of its character (DESIGN CHOICE, log 11). The window, the gap and the limit are held against the edge of the start
bit, not against its middle (DESIGN CHOICE, log 49). -/
def LinePort.startBit (char : Byte) (bad : Bool) (p : LinePort) : LinePort :=
  let gap := some (frameTime 1 + Config.gapTime)
  match p.phase with
  | .window =>
    { p with phase := .receiving, reply := [char], framing := bad, timer := none, gap := gap,
             limit := some Config.replyLimitTime }
  | .receiving => { p with reply := p.reply ++ [char], framing := p.framing || bad, gap := gap }
  | .idle => p
  | .transmitting => p
  | .quiet => p

/-- R124: the reply window runs out. -/
def State.windowOver (s : State) : State :=
  match s.port.phase with
  | .window => State.handOutcome .absent { s with port := s.port.toQuiet }
  | _ => s

/-- R124: the gap after the reply runs out. -/
def State.replyOver (s : State) : State :=
  match s.port.phase with
  | .receiving => State.handOutcome (heardOf s.port.framing s.port.reply) { s with port := s.port.toQuiet }
  | _ => s

/-- R125: the reply is still arriving 60 ms after its first start bit, the gap after its last character included (DESIGN CHOICE,
log 42). -/
def State.replyTooLong (s : State) : State :=
  match s.port.phase with
  | .receiving => State.handOutcome .garbled { s with port := s.port.toQuiet }
  | _ => s

/-- R124, R138: the turn end. A stop in progress completes. -/
def State.turnOver (s : State) : State :=
  match s.port.phase with
  | .quiet =>
    let s1 := { s with port := LinePort.atReset }
    if s1.engine.stopping then s1.completeStop else s1
  | _ => s

def execTransmissionEnd (s : State) : Host.Outcome State Fault Refusal :=
  expiry .transmissionEnd (settled State.transmissionOver) s

/-- R119: an excursion to space that has ended by the middle of the first bit time is no start bit, and is ignored. A stop bit
sampled as space is a framing error. -/
def execReplyStartBit (samples : BitVec 9) (stop : Bool) (s : State) : Host.Outcome State Fault Refusal :=
  live (fun s =>
    if startSeen samples then { s with port := s.port.startBit (characterOf samples) (!stop) } else s) s

def execReplyWindowTimeout (s : State) : Host.Outcome State Fault Refusal :=
  expiry .replyWindowTimeout (settled State.windowOver) s

def execReplyEnd (s : State) : Host.Outcome State Fault Refusal := expiry .replyEnd (settled State.replyOver) s

def execReplyLengthLimit (s : State) : Host.Outcome State Fault Refusal :=
  expiry .replyLengthLimit (settled State.replyTooLong) s

def execTurnEnd (s : State) : Host.Outcome State Fault Refusal := expiry .turnEnd (settled State.turnOver) s

end Sys2Proof.Machine
end

