-- ==== Sys2Proof/Machine/Resets.lean ====
section
/-!
DEFINITION. The three resets (R184, R185 and each chapter's reset table): POWER_ON_RESET, PIN_RESET, RESET_END and SUPPLY_RESET.
-/

namespace Sys2Proof.Machine

/-! ### Power-on and pin reset (R184) -/

/-- R39, R16: the banks with given ratings, their outputs held by the drive latch until the strobe (DEDUCED, log 15). -/
def Governor.resetBanks (ratings : Vector Nat 8) (g : Governor) : Vector Bank 8 :=
  Vector.ofFn (fun k : BankNo => Bank.atReset ratings[k] g.banks[k].on)

def Governor.ratings (g : Governor) : Vector Nat 8 := g.banks.map Bank.rating

/-- R184 and the reset tables: what a power-on and a pin reset do alike. The timers start at the end of the reset. -/
def State.resetBlocks (ratings : Vector Nat 8) (offset : Int) (s : State) : State :=
  { s with
    fmu := Fmu.atReset
    gov := Governor.atReset (s.gov.resetBanks ratings) offset
    gate := Gate.atReset
    water := Water.atReset
    table := Vector.replicate 64 Record.vacant
    account := Account.atReset
    port := LinePort.atReset
    engine := Engine.atReset
    saw := Saw.atReset
    prot := Protection.atReset
    attn := 0
    host := HostPort.atReset }

/-- A power-on reset begins. -/
def State.powerOnReset (s : State) : State :=
  { s.resetBlocks Config.defaultRatings 0 with resetting := some .powerOn }

/-- R179, R184: what a pin reset keeps of the protection unit. -/
def Protection.atPinReset (p : Protection) : Protection :=
  { Protection.atReset with
    tripOffset := p.tripOffset
    ufOffset := p.ufOffset
    shedInterval := p.shedInterval
    lock := p.lock }

/-- R184: a pin reset that overlaps a power-on reset is part of it (DEDUCED, log 14). -/
def overlap : Option ResetKind → ResetKind
  | some .powerOn => .powerOn
  | some .pin => .pin
  | none => .pin

/-- R184: a pin reset begins. It keeps the f_set offset and the ratings as well. -/
def State.pinReset (s : State) : State :=
  { s.resetBlocks s.gov.ratings s.gov.offset with
    prot := s.prot.atPinReset
    resetting := some (overlap s.resetting) }

def execPowerOnReset (s : State) : Host.Outcome State Fault Refusal := .next s.powerOnReset

def execPinReset (s : State) : Host.Outcome State Fault Refusal := .next s.pinReset

/-! ### The end of the reset (R184, R16, R56, R157) -/

/-- R56: an end switch found active fixes the count and g_t; both active enter Jammed. -/
def Gate.foundAt (ceiling : Nat) (shut full : Bool) (g : Gate) : Gate :=
  let g1 := { g with shut := shut, full := full }
  if shut && full then g1.enterJam .switches
  else if shut then { g1.fixAt 0 with target := min 0 ceiling }
  else if full then { g1.fixAt 1000 with target := min 1000 ceiling }
  else g1

/-- R157, R168: the debouncer starts at the end of the reset if SAW_ENG shows engaged. -/
def Saw.foundAt (engaged : Bool) (w : Saw) : Saw :=
  { w with raw := engaged, debounce := if engaged then some Config.debounceTime else none }

/-- R16, R39: the strobe at the end of the reset, with every output off. -/
def Governor.allOff (g : Governor) : Governor := { g with banks := g.banks.map (fun b => { b with on := false }) }

/-- R184: the end of a reset of a kind, with the levels found on the pins. -/
def State.endReset (kind : ResetKind) (nomsel shut full engaged : Bool) (s : State) : State :=
  State.raiseIf (shut && full) .gate
    { s with
      resetting := none
      startCause := kind
      sixty := nomsel
      fmu := { s.fmu with silence := some Config.silenceTime }
      gov := s.gov.allOff
      gate := s.gate.foundAt s.water.ceiling shut full
      account := { s.account with tick := some Config.restoreTime }
      saw := s.saw.foundAt engaged }

/-- RESET_END acts while a reset is in progress. -/
def State.resetOver (nomsel shut full engaged : Bool) (s : State) : State :=
  match s.resetting with
  | some kind => s.endReset kind nomsel shut full engaged
  | none => s

def execResetEnd (nomsel shut full engaged : Bool) (s : State) : Host.Outcome State Fault Refusal :=
  .next (s.resetOver nomsel shut full engaged)

/-! ### Supply reset (R185) -/

/-- R118: but for the account state, which is derived afresh from Balanced (DEDUCED, log 32). -/
def Account.supplyReset (a : Account) : Account := { Account.atReset with last := a.last, tick := some Config.restoreTime }

/-- R128, R134: a turn in flight becomes void. -/
def LinePort.void (p : LinePort) : LinePort := { p with turn := p.turn.map (fun t => { t with void := true }) }

/-- R168. -/
def Saw.supplyReset (w : Saw) : Saw :=
  let w1 := { w with draw := none, waiting := none, preparing := none, idle := none, nominal := 1500, cls := 2 }
  if w.clutch then { w1 with state := .closing, stuck := some Config.stuckTime }
  else { w1 with state := .idle, reserved := 0, engaged := 0, stuck := none }

/-- R179. -/
def Protection.supplyReset (p : Protection) : Protection := { p with uf := 0, interval := none, settled := .stopped }

/-- R185: the flags are cleared first; then each block takes the reset. -/
def State.supplyReset (s : State) : State :=
  State.clearAttn supplyResetMask
    { s with
      water := s.water.gaugeGone
      table := Vector.replicate 64 Record.vacant
      account := s.account.supplyReset
      port := s.port.void
      engine := Engine.atReset
      saw := s.saw.supplyReset
      prot := s.prot.supplyReset }

/-- R185: taken in every state, and answered DONE. The flags the blocks raise come after the clearing. -/
def execSupplyReset (s : State) : Host.Outcome State Fault Refusal :=
  command 0x05 slowBound (fun s => (settled State.supplyReset s, .plain .done)) s

end Sys2Proof.Machine
end

