-- ==== Sys2Proof/Machine/SawPermit.lean ====
section
/-!
DEFINITION. The rows of the saw permit unit (09_sawmill_drive_permit.md): SAW_ENG and its debouncer, the four timers, and the saw
commands.
-/

namespace Sys2Proof.Machine

/-! ### The clutch input and the timers (R157, R160 to R163) -/

def execSawEngChange (engaged : Bool) (s : State) : Host.Outcome State Fault Refusal :=
  live (fun s => { s with saw := s.saw.setRaw engaged }) s

def execDebounceTimerExpiry (s : State) : Host.Outcome State Fault Refusal :=
  expiry .debounceTimerExpiry (settled State.debounceOver) s

/-- R160. -/
def State.waitingOver (s : State) : State := if s.saw.state = .waiting then s.sawGivesUp .refused else s

/-- R161. -/
def State.preparingOver (s : State) : State := if s.saw.state = .preparing then s.sawGivesUp .noSurplus else s

/-- R162, R163. -/
def State.idleOver (s : State) : State := if s.saw.state = .released then { s with saw := s.saw.toClosing } else s

/-- R163. -/
def State.stuckOver (s : State) : State :=
  if s.saw.state = .closing then
    ({ s with saw := { s.saw with state := .fault, stuck := none, lastEvent := some .stuckClutch } }).raise .saw
  else s

def execWaitingTimerExpiry (s : State) : Host.Outcome State Fault Refusal :=
  expiry .waitingTimerExpiry (settled State.waitingOver) s

def execPreparingTimerExpiry (s : State) : Host.Outcome State Fault Refusal :=
  expiry .preparingTimerExpiry (settled State.preparingOver) s

def execIdleTimerExpiry (s : State) : Host.Outcome State Fault Refusal := expiry .idleTimerExpiry (settled State.idleOver) s

def execStuckTimerExpiry (s : State) : Host.Outcome State Fault Refusal := expiry .stuckTimerExpiry State.stuckOver s

/-! ### Commands (R160, R166, R167) -/

/-- R160: a request that waits for water. -/
def Saw.wait (d : Nat) (w : Saw) : Saw :=
  { w with state := .waiting, draw := some d, waiting := some Config.waitingTime }

/-- R160: RANGE, STATE, then the admission's outcome. -/
def State.sawRequest (d : Nat) (s : State) : State × Reply :=
  if d < 100 ∨ 4000 < d then (s, .plain .range)
  else if s.saw.state ≠ .idle then (s, .plain .state)
  else
    match s.admission d with
    | .granted => (settled (fun s => { s with saw := s.saw.grant d }) s, .plain .done)
    | .refused => ({ s with saw := s.saw.wait d }, .plain .started)
    | .noplan => (s, .plain .noplan)

def execSawRequest (draw : Half) (s : State) : Host.Outcome State Fault Refusal :=
  command 0x61 promptBound (State.sawRequest draw.toNat) s

/-- R166. -/
def execSawStop (s : State) : Host.Outcome State Fault Refusal :=
  command 0x62 promptBound (fun s =>
    (if s.saw.hasPermit then settled (fun s => { s with saw := s.saw.withdraw }) s else s, .plain .done)) s

/-- R167. -/
def execSawSet (nominal : Half) (cls : Byte) (s : State) : Host.Outcome State Fault Refusal :=
  command 0x63 promptBound (fun s =>
    if nominal.toNat < 100 ∨ 4000 < nominal.toNat ∨ cls.toNat < 1 ∨ 3 < cls.toNat then (s, .plain .range)
    else ({ s with saw := { s.saw with nominal := nominal.toNat, cls := cls.toNat } }, .plain .done)) s

def execSawRead (s : State) : Host.Outcome State Fault Refusal :=
  command 0x60 promptBound (fun s => (s, .reading .saw)) s

end Sys2Proof.Machine
end

