-- ==== Sys2Proof/Machine/Supply.lean ====
section
/-!
DEFINITION. The rows of the supply account (06_the_supply_account.md): APPLY and its completion, the restore tick, RESERVE SET,
ACCOUNT READ.
-/

namespace Sys2Proof.Machine

/-- R102 to R104, after the checks. The working set's slots start Pending; the event's end examines them (R105). -/
def State.startApply (scope : Byte) (sc : Scope) (s : State) : State × Reply :=
  let r := s.applyAll sc
  let counts := [BitVec.ofNat 8 r.2.1.length, BitVec.ofNat 8 r.2.2]
  if r.2.1 = [] then (r.1, .fixed .done counts)
  else
    ({ r.1 with account := { r.1.account with
        apply := some ⟨scope, r.2.1.map (fun n => (n, .pending)), r.2.2⟩ } }, .fixed .started counts)

/-- R102: RANGE, then BUSY. -/
def execApplyPlans (scope : Byte) (s : State) : Host.Outcome State Fault Refusal :=
  command 0x41 slowBound (fun s =>
    match scopeOf scope with
    | none => (s, .plain .range)
    | some sc =>
      if s.account.apply.isSome then (s, .plain .busy)
      else settledCommand (State.startApply scope sc) s) s

/-- R106 (DESIGN CHOICE, log 6). -/
def execApplyComplete (s : State) : Host.Outcome State Fault Refusal := live State.applyDone s

/-- R111. -/
def execRestoreTick (s : State) : Host.Outcome State Fault Refusal := expiry .restoreTick (settled State.restoreTick) s

/-- R116: the value is clamped to 0 to 2,000, FFFFh as 65,535 (DESIGN CHOICE, log 53). -/
def State.setReserve (r : Nat) (s : State) : State := { s with account := { s.account with reserve := min r 2000 } }

def execReserveSet (reserve : Half) (s : State) : Host.Outcome State Fault Refusal :=
  command 0x42 promptBound (fun s => (settled (State.setReserve reserve.toNat) s, .plain .done)) s

def execAccountRead (s : State) : Host.Outcome State Fault Refusal :=
  command 0x40 promptBound (fun s => (s, .reading .account)) s

end Sys2Proof.Machine
end

