-- ==== Sys2Proof/Machine/WaterPlan.lean ====
section
/-!
DEFINITION. The rows of the water plan (04_water_plan_and_pond_level.md): PLAN LOAD, the hold timer, PLAN READ.
-/

namespace Sys2Proof.Machine

/-- R58: an accepted table replaces the old one, and LEVEL is raised (R66). -/
def State.loadPlan (bands : List Band) (s : State) : State :=
  ({ s with water := s.water.load bands }).raise .level

/-- R58, R59, R65, R66. -/
def execPlanLoad (bands : List (BitVec 40)) (s : State) : Host.Outcome State Fault Refusal :=
  command 0x29 slowBound (fun s =>
    if planInRange (bands.map bandOf) then (settled (State.loadPlan (bands.map bandOf)) s, .plain .done)
    else (s, .plain .range)) s

/-- R64. -/
def execHoldTimerExpiry (s : State) : Host.Outcome State Fault Refusal :=
  expiry .holdTimerExpiry (settled (fun s => { s with water := s.water.holdOver })) s

def execPlanRead (s : State) : Host.Outcome State Fault Refusal :=
  command 0x28 promptBound (fun s => (s, .reading .plan)) s

end Sys2Proof.Machine
end

