-- ==== Sys2Proof/Machine/Dispatch.lean ====
section
/-!
DEFINITION. The meaning of every command, one arm for each row of spec/opcode_table.json.
-/

namespace Sys2Proof.Machine

def exec (i : Instr) (s : State) : Host.Outcome State Fault Refusal :=
  match i with
  | .risingCrossing sense => Sys2Proof.Machine.execRisingCrossing sense s
  | .silenceTimerExpiry => Sys2Proof.Machine.execSilenceTimerExpiry s
  | .bankFailedOpen bank => Sys2Proof.Machine.execBankFailedOpen bank s
  | .bankFailedStuck bank => Sys2Proof.Machine.execBankFailedStuck bank s
  | .bankDisable bank => Sys2Proof.Machine.execBankDisable bank s
  | .bankEnable bank => Sys2Proof.Machine.execBankEnable bank s
  | .bankReturn bank => Sys2Proof.Machine.execBankReturn bank s
  | .bankRatings ratings => Sys2Proof.Machine.execBankRatings ratings s
  | .bankCheck bank => Sys2Proof.Machine.execBankCheck bank s
  | .checkWindowsExhausted => Sys2Proof.Machine.execCheckWindowsExhausted s
  | .gainSet kp ki => Sys2Proof.Machine.execGainSet kp ki s
  | .governorRead => Sys2Proof.Machine.execGovernorRead s
  | .gatePulse => Sys2Proof.Machine.execGatePulse s
  | .endSwitchActivation switch active => Sys2Proof.Machine.execEndSwitchActivation switch active s
  | .pauseTimerExpiry => Sys2Proof.Machine.execPauseTimerExpiry s
  | .jamTimerExpiry => Sys2Proof.Machine.execJamTimerExpiry s
  | .gateRetry => Sys2Proof.Machine.execGateRetry s
  | .trimDecision => Sys2Proof.Machine.execTrimDecision s
  | .gateSet target => Sys2Proof.Machine.execGateSet target s
  | .gateCalibrate position => Sys2Proof.Machine.execGateCalibrate position s
  | .gateTrimSet float deadband => Sys2Proof.Machine.execGateTrimSet float deadband s
  | .gateRead => Sys2Proof.Machine.execGateRead s
  | .planLoad bands => Sys2Proof.Machine.execPlanLoad bands s
  | .holdTimerExpiry => Sys2Proof.Machine.execHoldTimerExpiry s
  | .planRead => Sys2Proof.Machine.execPlanRead s
  | .provision slot kind serial cls limit connect => Sys2Proof.Machine.execProvision slot kind serial cls limit connect s
  | .edit slot limit cls => Sys2Proof.Machine.execEdit slot limit cls s
  | .closeSlot slot => Sys2Proof.Machine.execCloseSlot slot s
  | .openSlot slot => Sys2Proof.Machine.execOpenSlot slot s
  | .releaseSlot slot => Sys2Proof.Machine.execReleaseSlot slot s
  | .retireSlot slot => Sys2Proof.Machine.execRetireSlot slot s
  | .recordLinkSilent slot => Sys2Proof.Machine.execRecordLinkSilent slot s
  | .silenceTimeLimit slot => Sys2Proof.Machine.execSilenceTimeLimit slot s
  | .recloseTimerExpiry slot => Sys2Proof.Machine.execRecloseTimerExpiry slot s
  | .liveTimeLimit slot => Sys2Proof.Machine.execLiveTimeLimit slot s
  | .nextChanged => Sys2Proof.Machine.execNextChanged s
  | .readRecord slot => Sys2Proof.Machine.execReadRecord slot s
  | .applyPlans scope => Sys2Proof.Machine.execApplyPlans scope s
  | .applyComplete => Sys2Proof.Machine.execApplyComplete s
  | .restoreTick => Sys2Proof.Machine.execRestoreTick s
  | .reserveSet reserve => Sys2Proof.Machine.execReserveSet reserve s
  | .accountRead => Sys2Proof.Machine.execAccountRead s
  | .transmissionEnd => Sys2Proof.Machine.execTransmissionEnd s
  | .replyWindowTimeout => Sys2Proof.Machine.execReplyWindowTimeout s
  | .replyEnd => Sys2Proof.Machine.execReplyEnd s
  | .replyLengthLimit => Sys2Proof.Machine.execReplyLengthLimit s
  | .turnEnd => Sys2Proof.Machine.execTurnEnd s
  | .lineStart => Sys2Proof.Machine.execLineStart s
  | .lineHold => Sys2Proof.Machine.execLineHold s
  | .lineResume => Sys2Proof.Machine.execLineResume s
  | .lineStop => Sys2Proof.Machine.execLineStop s
  | .lineStopCompletion => Sys2Proof.Machine.execLineStopCompletion s
  | .turnChoice => Sys2Proof.Machine.execTurnChoice s
  | .assignAbandoned serial => Sys2Proof.Machine.execAssignAbandoned serial s
  | .enrolStart => Sys2Proof.Machine.execEnrolStart s
  | .enrolStop => Sys2Proof.Machine.execEnrolStop s
  | .automaticEnrollment => Sys2Proof.Machine.execAutomaticEnrollment s
  | .rejoinIntervalExpiry => Sys2Proof.Machine.execRejoinIntervalExpiry s
  | .straysRead => Sys2Proof.Machine.execStraysRead s
  | .strayDrop serial => Sys2Proof.Machine.execStrayDrop serial s
  | .lineRead => Sys2Proof.Machine.execLineRead s
  | .sawEngChange engaged => Sys2Proof.Machine.execSawEngChange engaged s
  | .debounceTimerExpiry => Sys2Proof.Machine.execDebounceTimerExpiry s
  | .sawRequest draw => Sys2Proof.Machine.execSawRequest draw s
  | .waitingTimerExpiry => Sys2Proof.Machine.execWaitingTimerExpiry s
  | .preparingTimerExpiry => Sys2Proof.Machine.execPreparingTimerExpiry s
  | .idleTimerExpiry => Sys2Proof.Machine.execIdleTimerExpiry s
  | .stuckTimerExpiry => Sys2Proof.Machine.execStuckTimerExpiry s
  | .sawStop => Sys2Proof.Machine.execSawStop s
  | .sawSet nominal cls => Sys2Proof.Machine.execSawSet nominal cls s
  | .sawRead => Sys2Proof.Machine.execSawRead s
  | .tripClear => Sys2Proof.Machine.execTripClear s
  | .shedStep => Sys2Proof.Machine.execShedStep s
  | .shedIntervalExpiry => Sys2Proof.Machine.execShedIntervalExpiry s
  | .settledTimerExpiry => Sys2Proof.Machine.execSettledTimerExpiry s
  | .protSet fset tripOffset ufOffset interval => Sys2Proof.Machine.execProtSet fset tripOffset ufOffset interval s
  | .protLock => Sys2Proof.Machine.execProtLock s
  | .shedMode mode => Sys2Proof.Machine.execShedMode mode s
  | .protRead => Sys2Proof.Machine.execProtRead s
  | .transactionStart => Sys2Proof.Machine.execTransactionStart s
  | .noOp => Sys2Proof.Machine.execNoOp s
  | .commandFrameError mosi => Sys2Proof.Machine.execCommandFrameError mosi s
  | .notReadyRefusal => Sys2Proof.Machine.execNotReadyRefusal s
  | .responseReady => Sys2Proof.Machine.execResponseReady s
  | .attnRead => Sys2Proof.Machine.execAttnRead s
  | .attnClear mask => Sys2Proof.Machine.execAttnClear mask s
  | .ident => Sys2Proof.Machine.execIdent s
  | .status => Sys2Proof.Machine.execStatus s
  | .powerOnReset => Sys2Proof.Machine.execPowerOnReset s
  | .pinReset => Sys2Proof.Machine.execPinReset s
  | .supplyReset => Sys2Proof.Machine.execSupplyReset s
  | .replyStartBit samples stop => Sys2Proof.Machine.execReplyStartBit samples stop s
  | .resetEnd nomsel shut full engaged => Sys2Proof.Machine.execResetEnd nomsel shut full engaged s

end Sys2Proof.Machine
end

