-- ==== Sys2Proof/Safety.lean ====
section
/-!
DEFINITION. What the claims call a sound state, block by block: the bounds of the chapters' state tables and the rules that hold at
every moment, each an invariant of `step`. Also the hypotheses under which a command is carried out.
-/

namespace Sys2Proof.Machine

/-! ### When a command acts -/

/-- No power-on or pin reset is in progress (R184). -/
abbrev State.awake (s : State) : Prop := s.resetting = none

/-- A host command with a good frame is carried out: no reset is in progress, and the transaction is not a NOT READY one
(R181). -/
abbrev State.accepts (s : State) : Prop := s.resetting = none ∧ s.host.refuses = false

/-! ### Ballast governor -/

/-- The ranges of 2.2 and 2.6, and B = floor(B_fine / 1,024) (R23, R27). -/
abbrev Governor.sound (g : Governor) : Prop :=
  g.bFine ≤ 1024 * g.bCap ∧ g.b = g.bFine / 1024 ∧ g.carry ≤ g.carryBound ∧ g.s ≤ 256015 ∧
    -16000 ≤ g.ff ∧ g.ff ≤ 16000 ∧ -21000 ≤ g.ePrev ∧ g.ePrev ≤ 21000 ∧ g.kp ≤ 4095 ∧ g.ki ≤ 4095 ∧
    -1000 ≤ g.offset ∧ g.offset ≤ 1000 ∧ ∀ k : BankNo, g.banks[k].rating ≤ 2000

/-- The bank of the check record (R34). -/
abbrev Governor.underCheck (g : Governor) : Option BankNo := g.check.map CheckRecord.bank

/-- R16: the banks switched on are Ready banks and the one bank under check; throughout a trip they are exactly the Ready
banks. R34, R36: the bank under check is Checking, and no check runs in a trip. R33: a bank is Absent exactly for a rating
of 0. R179: a reset in progress has no trip. -/
abbrev State.outputsSound (s : State) : Prop :=
  (s.prot.trip = true → s.gov.check = none) ∧ (s.resetting.isSome = true → s.prot.trip = false) ∧
    ∀ k : BankNo,
      (s.gov.banks[k].on = true → s.gov.banks[k].state = .ready ∨ s.gov.banks[k].state = .checking) ∧
      (s.prot.trip = true → s.gov.banks[k].state = .ready → s.gov.banks[k].on = true) ∧
      (s.gov.banks[k].state = .checking ↔ s.gov.underCheck = some k) ∧
      (s.gov.banks[k].state = .absent ↔ s.gov.banks[k].rating = 0)

abbrev State.governorSound (s : State) : Prop := s.gov.sound ∧ s.outputsSound

/-! ### Guide vane positioner -/

/-- 3.2, R40, R46, R47: the ranges, g_t within the ceiling and 0 in a trip, each timer running in its drive states alone; a
reset in progress has no trip (R179). -/
abbrev State.gateSound (s : State) : Prop :=
  s.gate.p ≤ 1000 ∧ s.gate.prescaler ≤ 3 ∧ s.gate.trim ≤ 15 ∧ 10 ≤ s.gate.deadband ∧ s.gate.deadband ≤ 500 ∧
    s.gate.target ≤ s.water.ceiling ∧ (s.prot.trip = true → s.gate.target = 0) ∧
    (s.gate.jam.isSome = s.gate.driving) ∧ (s.gate.pause.isSome = decide (s.gate.drive = .pausing)) ∧
    (s.resetting.isSome = true → s.prot.trip = false)

/-! ### Water plan -/

/-- A loaded plan passes the checks of R58, and its band in force is one of its bands. -/
def WaterPlan.sound (p : WaterPlan) : Bool := planInRange p.bands && decide (1 ≤ p.inForce ∧ p.inForce ≤ p.bands.length)

/-- The level source has a level (R60, R61). -/
def LevelSource.hasLevel : LevelSource → Bool
  | .live => true
  | .holding => true
  | .lost => true
  | .absent => false
  | .waiting => false

/-- 4.2, R57 to R64. -/
abbrev Water.sound (w : Water) : Prop :=
  w.plan.all WaterPlan.sound = true ∧ w.level.isSome = w.source.hasLevel ∧ w.level.all (fun l => decide (l ≤ 4000)) = true ∧
    w.hold.isSome = decide (w.source = .holding)

/-! ### Station table -/

/-- 5.2: the ranges of the Service fields; R72: Connected asks a target limit of 10 or more, and a record that is not Enrolled
has no condition but Off. -/
def Service.inRange (life : Life) (sv : Service) : Bool :=
  decide (sv.limit ≤ 2000 ∧ sv.cls ≤ 3 ∧ sv.live ≤ Config.longTime) &&
    sv.staged.all (fun p => decide (p.limit ≤ 2000 ∧ p.cls ≤ 3)) &&
    sv.ack.all (fun a => decide (a.limit ≤ 4095 ∧ a.cls ≤ 3)) && sv.demand.all (fun d => decide (d ≤ 4095)) &&
    (match sv.condition with
      | .off => true
      | .connected => decide (life = .enrolled ∧ Config.leastLimit ≤ sv.limit)
      | .shed d _ => decide (life = .enrolled) && d.all (fun x => decide (x ≤ 4095))
      | .tripped t => decide (life = .enrolled) && t.all (fun x => decide (x ≤ Config.recloseTime))
      | .isolated _ => decide (life = .enrolled))

/-- 5.2, R88: the missed count is 3 exactly while the link is Silent. -/
def Station.inRange (st : Station) : Bool :=
  decide (st.missed ≤ 3) && (st.silence.isSome == decide (st.missed = 3)) &&
    st.silence.all (fun t => decide (t ≤ Config.longTime)) && st.service.all (Service.inRange st.life)

/-- R70: no serial twice among the non-Vacant records, none of theirs in the stray list, and at most one Gauge record; 5.2:
every record in range. -/
def State.tableSound (s : State) : Prop :=
  (∀ n st, s.station n = some st → st.inRange = true) ∧
    (∀ n m st su, s.station n = some st → s.station m = some su → st.serial = su.serial → n = m) ∧
    (∀ n st, s.station n = some st → st.serial ∉ s.engine.strays) ∧
    (∀ n m st su, s.station n = some st → s.station m = some su → st.kind = .gauge → su.kind = .gauge → n = m)

/-! ### Supply account -/

/-- R99: Over exactly when a plan is present and M > K - R; R110: unresolvable in Over alone; R106: an Apply in flight has a
Pending slot. -/
abbrev State.accountSound (s : State) : Prop :=
  s.account.isOver = s.overcommitted ∧ (s.account.unresolvable = true → s.account.isOver = true) ∧
    s.account.reserve ≤ 2000 ∧ s.account.apply.all (fun a => decide (a.count .pending ≠ 0)) = true

/-! ### Line port and line engine -/

/-- R124: each phase has its timers, and a turn is in flight in every phase but Idle; R134: a reply is held in Receiving
alone. -/
abbrev LinePort.sound (p : LinePort) : Prop :=
  p.turn.isSome = decide (p.phase ≠ .idle) ∧
    p.timer.isSome = decide (p.phase = .transmitting ∨ p.phase = .window ∨ p.phase = .quiet) ∧
    p.gap.isSome = decide (p.phase = .receiving) ∧ p.limit.isSome = decide (p.phase = .receiving) ∧
    (p.phase ≠ .receiving → p.reply = [] ∧ p.framing = false)

/-- R139, R140, R152: the places of the queues and the stray list, with no class, no errand's serial and no stray twice. -/
abbrev Engine.bounded (e : Engine) : Prop :=
  (e.sheds.map ShedEntry.cls).Nodup ∧
    (∀ x ∈ e.sheds, 1 ≤ x.cls ∧ x.cls ≤ 3 ∧ x.amount ≤ Config.feedBound) ∧
    e.errands.length ≤ Config.errandPlaces ∧ (e.errands.map Errand.serial).Nodup ∧
    e.strays.length ≤ Config.strayPlaces ∧ e.strays.Nodup ∧ e.hold.Nodup

/-- R122, R186: a prefix has at most 32 bits, left-aligned, with the unused bits 0. -/
abbrev Prefix.sound (p : Prefix) : Prop := p.len ≤ 32 ∧ p.bits <<< p.len = 0

/-- R146: at most 33 prefixes, none a prefix of another. The longest stand on top, and no length stands twice but that of the
two on top. -/
abbrev stackSound (l : List Prefix) : Prop :=
  l.length ≤ 33 ∧ l.Pairwise (fun p q => p.overlaps q = false) ∧ (∀ p ∈ l, p.sound) ∧
    (l.map Prefix.len).Pairwise (· ≥ ·) ∧ (l.map Prefix.len).tail.Pairwise (· > ·)

/-- The prefix of a roll step whose outcome is still to come. -/
def LinePort.rolling (p : LinePort) : Option Prefix :=
  match p.phase, p.turn with
  | .idle, _ => none
  | .quiet, _ => none
  | _, some ⟨.roll q, _, false⟩ => some q
  | _, _ => none

/-- R146, R147: beside the prefix of a roll step in flight the stack has no length twice, and none above its own. -/
abbrev rollSound (q : Prefix) (l : List Prefix) : Prop :=
  q.sound ∧ (l.map Prefix.len).Pairwise (· > ·) ∧ ∀ p ∈ l, p.len ≤ q.len

/-- R138: a stop is in progress only while a turn is in flight. R146: the stack. -/
abbrev State.lineSound (s : State) : Prop :=
  s.port.sound ∧ s.engine.bounded ∧ (s.engine.stopping = true → s.port.phase ≠ .idle) ∧ stackSound s.engine.stack ∧
    ∀ q ∈ s.port.rolling, rollSound q s.engine.stack

/-! ### Saw permit unit -/

/-- 9.2, R156 to R164: the clutch is Engaged exactly in Cutting, Closing and Fault; what D, s and the engaged draw are in each
state; each timer runs in its own state alone. -/
def Saw.consistent (w : Saw) : Bool :=
  (w.clutch == decide (w.state = .cutting ∨ w.state = .closing ∨ w.state = .fault)) &&
    (w.waiting.isSome == decide (w.state = .waiting)) && (w.preparing.isSome == decide (w.state = .preparing)) &&
    (w.idle.isSome == decide (w.state = .released)) && (w.stuck.isSome == decide (w.state = .closing)) &&
    (if w.clutch then decide (w.engaged = w.reserved) else decide (w.engaged = 0)) &&
    (match w.state with
      | .idle => decide (w.draw = none ∧ w.reserved = 0)
      | .waiting => w.draw.isSome && decide (w.reserved = 0)
      | .preparing => decide (w.draw = some w.reserved)
      | .released => decide (w.draw = some w.reserved)
      | .cutting => decide (w.draw = some w.reserved)
      | .closing => true
      | .fault => true)

abbrev Saw.sound (w : Saw) : Prop :=
  w.consistent = true ∧ w.reserved ≤ 4000 ∧ w.draw.all (fun d => decide (100 ≤ d ∧ d ≤ 4000)) = true ∧
    100 ≤ w.nominal ∧ w.nominal ≤ 4000 ∧ 1 ≤ w.cls ∧ w.cls ≤ 3 ∧
    (w.debounce.isSome = decide (w.raw ≠ w.clutch))

/-- R168: a power-on or pin reset in progress has the clutch state Disengaged. -/
abbrev State.sawSound (s : State) : Prop := s.saw.sound ∧ (s.resetting.isSome = true → s.saw.clutch = false)

/-! ### Attention and protection -/

/-- R182, 11.6.2: bits 14 and 15 of the attention set read 0; 10.2: the ranges of the protection unit, and no under-frequency
count in a trip (R169). -/
abbrev State.alarmsSound (s : State) : Prop :=
  s.attn &&& ~~~attnMask = 0 ∧ s.prot.uf ≤ 3 ∧ (s.prot.trip = true → s.prot.uf = 0) ∧
    2000 ≤ s.prot.tripOffset ∧ s.prot.tripOffset ≤ 8000 ∧ 300 ≤ s.prot.ufOffset ∧ s.prot.ufOffset ≤ 3000 ∧
    1 ≤ s.prot.shedInterval ∧ s.prot.shedInterval ≤ 10

/-! ### Frequency measurement unit -/

/-- 1.2, R2, R10: the reference is present while Tracking and absent while Lost, the window holds at most three accepted periods,
last f is in its range, and the silence timer runs but in Lost and in a reset, which is never Lost (R14). -/
abbrev State.fmuSound (s : State) : Prop :=
  (s.fmu.state = .tracking → s.fmu.reference.isSome = true ∧ s.fmu.lastF.isSome = true) ∧
    (s.fmu.state = .lost → s.fmu.reference = none ∧ s.fmu.window = []) ∧
    s.fmu.window.length ≤ 3 ∧ (∀ x ∈ s.fmu.window, 6000 ≤ x ∧ x ≤ 33333) ∧
    s.fmu.lastF.all (fun f => decide (40000 ≤ f ∧ f ≤ 70000)) = true ∧
    s.fmu.silence.isSome = decide (s.fmu.state ≠ .lost ∧ s.resetting = none) ∧
    (s.resetting.isSome = true → s.fmu.state ≠ .lost)

end Sys2Proof.Machine
end

