-- ==== Sys2Proof/WellFormed.lean ====
section
/-!
DEFINITION. The well-formed commands: an operand the hardware cannot bring about is refused here. Operands that the part itself
judges (a slot above 63, a limit too large) are well-formed, since their commands are answered (R181).
-/

namespace Sys2Proof

/-- R187: a PLAN LOAD frame holds at most eight bands. R181: COMMAND_FRAME_ERROR is a frame that fails a frame check. Every other
row's operands are of their field's width. -/
def Instr.wellFormed : Instr → Bool
  | .planLoad bands => decide (bands.length ≤ 8)
  | .commandFrameError mosi => frameFails (shiftedIn mosi)
  | _ => true

end Sys2Proof
end

