-- ==== Sys2Proof/Certificates/Slice0/Obligations.lean ====
section
/-!
DEFINITION. The statements made of the model, for the provers. Each docstring names the rule a statement formalises. Where an event
goes on to what follows from it (account, push hold set, Apply, turn choice), the next state is `State.settle` of the
owner's part, whose own frame is `SettleKeepsTheOwnersBlocks`.
-/

open Sys2Proof Sys2Proof.Machine

/-! ### The machine -/

/-- One command is taken from the front of the queue, and its effect is `exec` on the state with the queue's rest. -/
def Obligations.StepTakesTheFrontCommand : Prop :=
  ∀ (c : Instr) (rest : List Instr) (s : State),
    step { s with pending := c :: rest } = exec c { s with pending := rest }

/-- The model's choice (DESIGN CHOICE, log 1): on an empty queue a microsecond passes. The timebase counts (R1), and
exactly the commands of what runs out in it join the queue, in whatever order (DESIGN CHOICE, log 3), none of them
overtaken yet by another event. In a reset nothing counts. -/
def Obligations.IdleStepCountsOneMicrosecond : Prop :=
  ∀ s : State, s.pending = [] →
    (s.awake → ∃ t, step s = .next t ∧ t.fmu.timebase = s.fmu.timebase + 1 ∧
      t.gov = s.gov ∧ t.attn = s.attn ∧ t.gate.pause = s.gate.pause.map (· - 1) ∧ (∀ c, c ∈ t.pending ↔ c ∈ s.due) ∧
      t.ranOut = s.due ∧ ∀ c ∈ s.due, t.stale c = false) ∧
    (¬ s.awake → step s = .next s)

/-- No command stops the machine: the spec gives the part no stop (INVENTORY.md, Faults). -/
def Obligations.EveryCommandAnswersANextState : Prop := ∀ (i : Instr) (s : State), ∃ t, exec i s = .next t

/-- R181: the command shifted in during a NOT READY transaction is not carried out; the transaction ends. The model's
choice (DEDUCED, log 13): during a power-on or pin reset only the reset rows act. The row of a timer that another event of
its microsecond has stopped or started again changes nothing (DESIGN CHOICE, log 2); so where a crossing is taken first the
silence timeout does not happen (R10), where a pulse is, no jam follows (R47), and where a start bit is, the window does not
close and the reply continues (R124). -/
def Obligations.RefusedAndIgnoredCommandsChangeNothing : Prop :=
  ∀ (i : Instr) (s : State),
    (s.awake → s.host.refuses = true → (commandBody i).isSome = true →
      exec i s = .next { s with host := { s.host with transaction := none } }) ∧
    (¬ s.awake → i ≠ .powerOnReset → i ≠ .pinReset → (∀ a b c d, i ≠ .resetEnd a b c d) → exec i s = .next s) ∧
    (s.awake → s.stale i = true → exec i s = .next s) ∧
    (∀ sense, s.awake → .silenceTimerExpiry ∈ s.ranOut →
      ∃ t, exec (.risingCrossing sense) s = .next t ∧ exec .silenceTimerExpiry t = .next t) ∧
    (s.awake → s.gate.driving = true → .jamTimerExpiry ∈ s.ranOut →
      ∃ t, exec .gatePulse s = .next t ∧ exec .jamTimerExpiry t = .next t) ∧
    (∀ samples stop, s.awake → startSeen samples = true →
      (s.port.phase = .window → .replyWindowTimeout ∈ s.ranOut →
        ∃ t, exec (.replyStartBit samples stop) s = .next t ∧ t.port.phase = .receiving ∧
          exec .replyWindowTimeout t = .next t) ∧
      (s.port.phase = .receiving → .replyEnd ∈ s.ranOut →
        ∃ t, exec (.replyStartBit samples stop) s = .next t ∧ t.port.phase = .receiving ∧ exec .replyEnd t = .next t))

/-- What follows from an event within it (DEDUCED, log 17) touches neither the measurement, the governor, the water
plan, the protection unit, the command port nor the queue, and leaves every record's serial, lifecycle and acknowledged
settings. R144: of the push hold set it keeps the slots that are still push pending with the target they were held under, which
for a slot that joined within the event is the one the owner left. -/
def Obligations.SettleKeepsTheOwnersBlocks : Prop :=
  ∀ before s : State,
    let t := State.settle before s
    t.fmu = s.fmu ∧ t.gov = s.gov ∧ t.water = s.water ∧ t.prot = s.prot ∧ t.host = s.host ∧ t.choices = s.choices ∧
      t.pending = s.pending ∧ t.ranOut = s.ranOut ∧ t.resetting = s.resetting ∧ t.startCause = s.startCause ∧ t.sixty = s.sixty ∧
      ∀ n, (t.station n).map Station.serial = (s.station n).map Station.serial ∧
        (t.station n).map Station.life = (s.station n).map Station.life ∧
        (t.station n).map (fun st => st.service.map Service.ack) =
          (s.station n).map (fun st => st.service.map Service.ack) ∧
        (n ∈ t.engine.hold ↔ n ∈ s.engine.hold ∧ (t.station n).map Station.pushPending = some true ∧
          t.targetAt n = if n ∈ before.engine.hold then before.targetAt n else s.targetAt n)

/-! ### Frequency measurement -/

/-- R4: a crossing less than 6,000 us after the reference restarts the silence timer and changes nothing else. -/
def Obligations.GlitchCrossingIsDiscarded : Prop :=
  ∀ (sense : BitVec 8) (s : State) (r : BitVec 24), s.awake → s.fmu.state ≠ .lost → s.fmu.reference = some r →
    (s.fmu.timebase - r).toNat < 6000 →
    exec (.risingCrossing sense) s = .next { s with fmu := { s.fmu with silence := some 100000 } }

/-- R2, R5, R10, R11, R171, R175, R182: a crossing in Lost, one without a reference, an accepted period that leaves the
window short of four, and 100 ms without a crossing. -/
def Obligations.CrossingsAndSilenceBeforeAFullWindow : Prop :=
  ∀ (sense : BitVec 8) (s : State), s.awake →
    (s.fmu.state = .lost → exec (.risingCrossing sense) s =
      .next { s with fmu := { s.fmu with
        reference := some s.fmu.timebase, window := [], state := .acquiring, silence := some 100000 } }) ∧
    (s.fmu.state ≠ .lost → s.fmu.reference = none → exec (.risingCrossing sense) s =
      .next { s with fmu := { s.fmu with reference := some s.fmu.timebase, silence := some 100000 } }) ∧
    (∀ r, s.fmu.state ≠ .lost → s.fmu.reference = some r → 6000 ≤ (s.fmu.timebase - r).toNat →
      (s.fmu.timebase - r).toNat ≤ 33333 → s.fmu.window.length < 3 → exec (.risingCrossing sense) s =
      .next { s with fmu := { s.fmu with
        reference := some s.fmu.timebase
        window := s.fmu.window ++ [(s.fmu.timebase - r).toNat]
        silence := some 100000 } }) ∧
    (s.fmu.state ≠ .lost → s.stale .silenceTimerExpiry = false → exec .silenceTimerExpiry s =
      .next { s with
        fmu := { s.fmu with state := .lost, window := [], reference := none, silence := none }
        prot := { s.prot with settled := .stopped, uf := 0 }
        attn := s.attn ||| 0x0010 })

/-- R5, R7: the fourth accepted period ends the window: f is floor(4,000,000,000 / W) limited to 40,000 to 70,000, with
the range flag, and the FMU is Tracking, whatever the four receivers do with the completion, in whatever order (DESIGN
CHOICE, log 4). R6, R171, R175: a slow period empties the window, leaves the FMU Acquiring, stops the settled timer, and
counts as an under-frequency window; the governor does not take it. What follows within the event: DEDUCED, log 17. -/
def Obligations.FourthAndSlowPeriodsEndTheWindow : Prop :=
  ∀ (sense : BitVec 8) (s : State) (r : BitVec 24), s.awake → s.fmu.state ≠ .lost → s.fmu.reference = some r →
    let period := (s.fmu.timebase - r).toNat
    let w := s.fmu.window.sum + period
    let c : Completion :=
      ⟨max 40000 (min 70000 (4000000000 / w)),
        if 4000000000 / w < 40000 then .below else if 70000 < 4000000000 / w then .above else .inRange,
        decide (s.fmu.state = .acquiring)⟩
    let ended := { s with fmu :=
      { timebase := s.fmu.timebase
        reference := some s.fmu.timebase
        window := []
        state := .tracking
        silence := some 100000
        lastF := some c.f
        flag := c.flag } }
    (6000 ≤ period → period ≤ 33333 → s.fmu.window.length = 3 → ∃ order t, order.Perm receivers ∧
      t = State.settle ended (State.offer order sense c { ended with choices := s.choices + 1 }) ∧
      exec (.risingCrossing sense) s = .next t ∧ t.fmu = ended.fmu) ∧
    (33333 < period → ∃ t, exec (.risingCrossing sense) s = .next t ∧
      t.fmu = { s.fmu with
        reference := some s.fmu.timebase, window := [], state := .acquiring, silence := some 100000 } ∧
      t.prot.settled = .stopped ∧ t.gov = s.gov ∧
      (s.prot.trip = false → s.prot.uf < 2 → t.prot.uf = s.prot.uf + 1) ∧
      (s.prot.trip = true → t.prot.uf = s.prot.uf))

/-! ### Ballast governor -/

/-- R20 to R23, R25: stages 2 to 5 and 8 of a completion outside a trip. `h` is the governor after stage 0, which
BankFailuresAndCheckEnd gives. -/
def Obligations.CompletionFollowsTheControlLaw : Prop :=
  ∀ (fset : Int) (prev : Vector Bool 8) (sense : BitVec 8) (c : Completion) (g : Governor),
    let h := ((g.health prev sense).1.checkResult sense).1
    let e := (c.f : Int) - fset
    let e0 := if c.first || g.reseed then e else g.ePrev
    let x := (h.bFine : Int) + 1024 * g.ff + (g.kp : Int) * (e - e0) + (g.ki : Int) * e
    let t := (g.take false fset prev sense c).1
    (t.bFine : Int) = max 0 (min (1024 * (h.bCap : Int)) x) ∧ t.b = t.bFine / 1024 ∧ t.ff = 0 ∧ t.ePrev = e ∧
      t.reseed = false ∧ t.s = g.s + t.b - g.s / 16 ∧ t.kp = g.kp ∧ t.ki = g.ki ∧ t.offset = g.offset ∧
      (g.check = none → t.check = none ∧ t.lastCheck = g.lastCheck) ∧
      ∀ k : BankNo, t.banks[k].rating = g.banks[k].rating

/-- R24: the banks are offered by descending rating, equal ratings by number; each is chosen where it fits in what those
chosen before it leave of B + carry, and the new carry is what remains, at most r_min - 1; stages 6 to 8 leave exactly
those chosen on. -/
def Obligations.SelectionFitsTheTarget : Prop :=
  ∀ g : Governor,
    let rating := fun k : BankNo => g.banks[k].rating
    g.offered.Pairwise (fun i j => rating j < rating i ∨ (rating i = rating j ∧ i < j)) ∧
    (∀ k : BankNo, k ∈ g.offered ↔ (g.banks[k].state = .ready ∨ g.banks[k].state = .checking)) ∧
    g.select.1.Sublist g.offered ∧
    (∀ m, g.rMin = some m →
      (∀ before k rest, g.offered = before ++ k :: rest →
        (k ∈ g.select.1 ↔
          rating k + ((before.filter (fun j => decide (j ∈ g.select.1))).map rating).sum ≤ g.b + g.carry)) ∧
      (g.select.1.map rating).sum ≤ g.b + g.carry ∧
      g.select.2 = min (g.b + g.carry - (g.select.1.map rating).sum) (m - 1)) ∧
    (g.rMin = none → g.select = ([], 0)) ∧
    g.command.1.carry = g.select.2 ∧ ∀ k : BankNo, (g.command.1.banks[k].on = true ↔ k ∈ g.select.1)

/-- R27, R30, R31, R32, R34: a bank leaves or enters the Ready set, B_cap follows, and B_fine, the carry and B are
clamped; a check starts without touching them. -/
def Obligations.BankCommandsMoveTheReadySet : Prop :=
  ∀ (bank : Byte) (k : BankNo) (s : State), s.accepts → bankOf bank = some k →
    (s.gov.banks[k].state = .ready → ∃ g,
      exec (.bankDisable bank) s = .next (State.answer 0x12 100 (.plain .done) { s with gov := g }) ∧
      g = { s.gov with
        banks := s.gov.banks.set k ⟨s.gov.banks[k].rating, .disabled, 0, 0, false⟩
        bFine := min s.gov.bFine (1024 * g.bCap), carry := min s.gov.carry g.carryBound, b := min s.gov.b g.bCap } ∧
      g.bCap + s.gov.banks[k].rating = s.gov.bCap) ∧
    (s.gov.banks[k].state = .disabled → s.prot.trip = false → ∃ g,
      exec (.bankEnable bank) s = .next (State.answer 0x13 100 (.plain .done) { s with gov := g }) ∧
      g = { s.gov with
        banks := s.gov.banks.set k { s.gov.banks[k] with state := .ready }
        bFine := min s.gov.bFine (1024 * g.bCap), carry := min s.gov.carry g.carryBound, b := min s.gov.b g.bCap } ∧
      g.bCap = s.gov.bCap + s.gov.banks[k].rating) ∧
    (∀ r, s.gov.banks[k].state = .failed r → s.prot.trip = false → ∃ g,
      exec (.bankReturn bank) s = .next (State.answer 0x14 100 (.plain .done) { s with gov := g }) ∧
      g = { s.gov with
        banks := s.gov.banks.set k { s.gov.banks[k] with state := .ready, miss := 0, stuck := 0 }
        bFine := min s.gov.bFine (1024 * g.bCap), carry := min s.gov.carry g.carryBound, b := min s.gov.b g.bCap } ∧
      g.bCap = s.gov.bCap + s.gov.banks[k].rating) ∧
    (s.gov.banks[k].state = .disabled → s.prot.trip = false → s.gov.check = none →
      exec (.bankCheck bank) s = .next (State.answer 0x15 100 (.plain .started) { s with
        gov := { s.gov with
          banks := s.gov.banks.set k { s.gov.banks[k] with state := .checking }
          check := some ⟨k, 0, false⟩ } })) ∧
    (s.prot.trip = true →
      exec (.bankEnable bank) s = .next (State.answer 0x13 100 (.plain .state) s) ∧
      exec (.bankReturn bank) s = .next (State.answer 0x14 100 (.plain .state) s) ∧
      exec (.bankCheck bank) s = .next (State.answer 0x15 100 (.plain .state) s))

/-- R33: LOCKED, RANGE, STATE in that order; else every bank takes its rating, and its state and counts afresh. -/
def Obligations.BankRatingsReplaceTheTable : Prop :=
  ∀ (ratings : Vector Half 8) (s : State), s.accepts →
    (s.prot.lock = true →
      exec (.bankRatings ratings) s = .next (State.answer 0x16 100 (.plain .locked) s)) ∧
    (s.prot.lock = false → (∃ k : BankNo, 2000 < ratings[k].toNat) →
      exec (.bankRatings ratings) s = .next (State.answer 0x16 100 (.plain .range) s)) ∧
    (s.prot.lock = false → (∀ k : BankNo, ratings[k].toNat ≤ 2000) → (s.prot.trip = true ∨ s.gov.check ≠ none) →
      exec (.bankRatings ratings) s = .next (State.answer 0x16 100 (.plain .state) s)) ∧
    (s.prot.lock = false → (∀ k : BankNo, ratings[k].toNat ≤ 2000) → s.prot.trip = false → s.gov.check = none → ∃ g,
      exec (.bankRatings ratings) s = .next (State.answer 0x16 100 (.plain .done) { s with gov := g }) ∧
      (∀ k : BankNo, g.banks[k] =
        ⟨ratings[k].toNat, if ratings[k].toNat = 0 then .absent else .ready, 0, 0,
          s.gov.banks[k].on && decide (ratings[k].toNat ≠ 0)⟩) ∧
      g = { s.gov with
        banks := g.banks, bFine := min s.gov.bFine (1024 * g.bCap), carry := min s.gov.carry g.carryBound,
        b := min s.gov.b g.bCap } ∧
      g.bCap = (ratings.toList.map BitVec.toNat).sum)

/-- R28, R29, R27: stage 0 of a completion judges every bank by its sense sample and the output in force up to it. R35: the
running check at a completion outside a trip: the result of a chosen bank, a bank found Stuck, and the windows counted. The
rows of a bank's failure and of the fiftieth window, taken as steps of their own, are the model's choice (DESIGN CHOICE,
logs 6 and 7). -/
def Obligations.BankFailuresAndCheckEnd : Prop :=
  (∀ (prev : Vector Bool 8) (sense : BitVec 8) (g : Governor),
    let t := (g.health prev sense).1
    (∀ k : BankNo,
      let b := g.banks[k]
      let seen := sense.getLsbD k
      let dark := { b with stuck := 0 }
      let live := if b.stuck = 0 then { b with stuck := 1 } else { b with state := .failed .stuck, stuck := 0 }
      (b.state = .ready → prev[k] = true → t.banks[k] =
        if seen then { dark with miss := 0 }
        else if b.miss = 0 then { dark with miss := 1 }
        else { dark with state := .failed .openCircuit, miss := 0 }) ∧
      (b.state = .ready → prev[k] = false → t.banks[k] = { (if seen then live else dark) with miss := 0 }) ∧
      (b.state = .disabled ∨ b.state = .checking → t.banks[k] = if seen = true ∧ prev[k] = false then live else dark) ∧
      (b.state = .absent ∨ (∃ r, b.state = .failed r) → t.banks[k] = b)) ∧
    ((∀ k : BankNo, g.banks[k].state = .ready → t.banks[k].state = .ready) → t = { g with banks := t.banks }) ∧
    (∀ k : BankNo, g.banks[k].state = .ready → t.banks[k].state ≠ .ready → t = { g with
      banks := t.banks
      bFine := min g.bFine (1024 * t.bCap), carry := min g.carry t.carryBound, b := min g.b t.bCap }) ∧
    ((g.health prev sense).2 = if ∃ k : BankNo, t.banks[k].state ≠ g.banks[k].state then [.bank] else [])) ∧
  (∀ (fset : Int) (prev : Vector Bool 8) (sense : BitVec 8) (c : Completion) (g : Governor) (k : BankNo) (w : Nat),
    let r := g.take false fset prev sense c
    let disabled : Bank := ⟨g.banks[k].rating, .disabled, 0, 0, false⟩
    (g.check = some ⟨k, w, true⟩ →
      r.1.banks[k] = disabled ∧ r.1.check = none ∧
        r.1.lastCheck = some (k, if sense.getLsbD k then .pass else .fail) ∧ .check ∈ r.2) ∧
    (g.check = some ⟨k, w, false⟩ → g.banks[k].state = .checking → prev[k] = false → sense.getLsbD k = true →
      g.banks[k].stuck = 1 →
      r.1.banks[k].state = .failed .stuck ∧ r.1.banks[k].on = false ∧ r.1.check = none ∧
        r.1.lastCheck = some (k, .fail) ∧ .bank ∈ r.2 ∧ .check ∈ r.2) ∧
    (g.check = some ⟨k, w, false⟩ → g.banks[k].state = .checking → sense.getLsbD k = false →
      (r.1.banks[k].on = true → r.1.check = some ⟨k, w, true⟩ ∧ .check ∉ r.2) ∧
      (r.1.banks[k].on = false → w < 49 → r.1.check = some ⟨k, w + 1, false⟩ ∧ .check ∉ r.2) ∧
      (r.1.banks[k].on = false → w = 49 → r.1.banks[k] = disabled ∧ r.1.check = none ∧
        r.1.lastCheck = some (k, .notExercised) ∧ .check ∈ r.2))) ∧
  ∀ (k : BankNo) (s : State), s.awake →
    (s.gov.banks[k].state = .ready → s.gov.banks[k].on = true → s.gov.banks[k].miss = 1 → ∃ g,
      exec (.bankFailedOpen k) s = .next { s with gov := g, attn := s.attn ||| 0x0001 } ∧
      g = { s.gov with
        banks := s.gov.banks.set k ⟨s.gov.banks[k].rating, .failed .openCircuit, 0, 0, false⟩
        bFine := min s.gov.bFine (1024 * g.bCap), carry := min s.gov.carry g.carryBound, b := min s.gov.b g.bCap } ∧
      g.bCap + s.gov.banks[k].rating = s.gov.bCap) ∧
    (s.gov.banks[k].state = .ready → s.gov.banks[k].on = false → s.gov.banks[k].stuck = 1 → ∃ g,
      exec (.bankFailedStuck k) s = .next { s with gov := g, attn := s.attn ||| 0x0001 } ∧
      g = { s.gov with
        banks := s.gov.banks.set k { s.gov.banks[k] with state := .failed .stuck, stuck := 0 }
        bFine := min s.gov.bFine (1024 * g.bCap), carry := min s.gov.carry g.carryBound, b := min s.gov.b g.bCap } ∧
      g.bCap + s.gov.banks[k].rating = s.gov.bCap) ∧
    (∀ c, s.gov.check = some c → c.bank = k → c.chosen = false → c.windows = 49 →
      exec .checkWindowsExhausted s = .next { s with
        gov := { s.gov with
          banks := s.gov.banks.set k ⟨s.gov.banks[k].rating, .disabled, 0, 0, false⟩
          check := none
          lastCheck := some (k, .notExercised) }
        attn := s.attn ||| 0x0002 })

/-! ### Guide vane positioner -/

/-- R44, R45, R46: the drive decision in every drive state. -/
def Obligations.DriveDecisionFollowsTheStopBand : Prop :=
  ∀ g : Gate,
    (g.drive = .stopped → g.p + 2 < g.target → g.full = false →
      g.decide = { g with drive := .opening, jam := some 4000000, pause := none }) ∧
    (g.drive = .stopped → g.target + 2 < g.p → g.shut = false →
      g.decide = { g with drive := .closing, jam := some 4000000, pause := none }) ∧
    (g.drive = .stopped → g.p ≤ g.target + 2 → g.target ≤ g.p + 2 → g.decide = g) ∧
    (g.drive = .stopped → g.target + 2 < g.p → g.shut = true → g.target ≤ 2 →
      g.decide = { g with p := 0, prescaler := 0, calibrated := true }) ∧
    (g.drive = .stopped → g.p + 2 < g.target → g.full = true → 998 ≤ g.target → g.target ≤ 1000 →
      g.decide = { g with p := 1000, prescaler := 0, calibrated := true }) ∧
    (g.drive = .opening → g.decide =
      if g.target ≤ g.p then { g with drive := .pausing, pause := some 500000, jam := none } else g) ∧
    (g.drive = .closing → g.decide =
      if g.p ≤ g.target then { g with drive := .pausing, pause := some 500000, jam := none } else g) ∧
    (g.drive = .pausing → g.decide = g) ∧ (∀ c, g.drive = .jammed c → g.decide = g)

/-- R41, R46, R47: the pulses of a run, pulses outside a run, the end of a pause, and a run without pulses. -/
def Obligations.GatePulsesAndDriveTimers : Prop :=
  ∀ s : State, s.awake →
    ((s.gate.drive = .opening ∨ s.gate.drive = .closing) → s.gate.prescaler < 3 →
      exec .gatePulse s = .next { s with gate := { s.gate with
        jam := some 4000000, prescaler := s.gate.prescaler + 1 } }) ∧
    (s.gate.drive = .opening → s.gate.prescaler = 3 → s.gate.p < 1000 →
      exec .gatePulse s = .next { s with gate := Gate.decide { s.gate with
        jam := some 4000000, prescaler := 0, p := s.gate.p + 1 } }) ∧
    (s.gate.drive = .closing → s.gate.prescaler = 3 → 0 < s.gate.p →
      exec .gatePulse s = .next { s with gate := Gate.decide { s.gate with
        jam := some 4000000, prescaler := 0, p := s.gate.p - 1 } }) ∧
    (s.gate.driving = true → s.gate.prescaler = 3 →
      (s.gate.drive = .opening ∧ s.gate.p = 1000 ∨ s.gate.drive = .closing ∧ s.gate.p = 0) →
      exec .gatePulse s = .next { s with gate := { s.gate with jam := some 4000000, prescaler := 0 } }) ∧
    (s.gate.driving = false → exec .gatePulse s = .next s) ∧
    (s.gate.drive = .pausing → s.stale .pauseTimerExpiry = false → exec .pauseTimerExpiry s =
      .next { s with gate := Gate.decide { s.gate with drive := .stopped, pause := none } }) ∧
    (s.gate.driving = true → s.stale .jamTimerExpiry = false → exec .jamTimerExpiry s =
      .next { s with
        gate := { s.gate with drive := .jammed .stall, pause := none, jam := none }
        attn := s.attn ||| 0x0004 })

/-- R42, R43: an end switch fixes the count, ends a run toward its own end, and else takes a drive decision; both
switches active jam the drive, in Pausing too (DEDUCED, log 45); a release changes the level alone (DESIGN CHOICE, log 9). -/
def Obligations.EndSwitchesFixTheCount : Prop :=
  ∀ s : State, s.awake →
    (s.gate.shut = false → s.gate.full = false → s.gate.drive ≠ .closing →
      exec (.endSwitchActivation .shut true) s = .next { s with gate := Gate.decide { s.gate with
        shut := true, p := 0, prescaler := 0, calibrated := true } }) ∧
    (s.gate.shut = false → s.gate.full = false → s.gate.drive = .closing →
      exec (.endSwitchActivation .shut true) s = .next { s with gate := { s.gate with
        shut := true, p := 0, prescaler := 0, calibrated := true, drive := .pausing, pause := some 500000,
        jam := none } }) ∧
    (s.gate.shut = false → s.gate.full = false → s.gate.drive ≠ .opening →
      exec (.endSwitchActivation .full true) s = .next { s with gate := Gate.decide { s.gate with
        full := true, p := 1000, prescaler := 0, calibrated := true } }) ∧
    (s.gate.shut = false → s.gate.full = false → s.gate.drive = .opening →
      exec (.endSwitchActivation .full true) s = .next { s with gate := { s.gate with
        full := true, p := 1000, prescaler := 0, calibrated := true, drive := .pausing, pause := some 500000,
        jam := none } }) ∧
    (s.gate.shut = true → s.gate.full = false →
      exec (.endSwitchActivation .full true) s = .next { s with
        gate := { s.gate with full := true, drive := .jammed .switches, pause := none, jam := none }
        attn := s.attn ||| 0x0004 }) ∧
    (exec (.endSwitchActivation .shut false) s = .next { s with gate := { s.gate with shut := false } } ∧
      exec (.endSwitchActivation .full false) s = .next { s with gate := { s.gate with full := false } })

/-- R48, R52, R53, R54: the gate commands that are carried out, and the refusals of GATE SET. FFFFh as a float or a deadband is 65,535
(DESIGN CHOICE, log 53). -/
def Obligations.GateCommandsSetTheGate : Prop :=
  ∀ (v w : Half) (s : State), s.accepts →
    (s.gate.isJammed = true → (s.gate.shut = false ∨ s.gate.full = false) →
      exec .gateRetry s = .next (State.answer 0x23 100 (.plain .done) { s with gate := { s.gate with
        drive := .pausing, pause := some 500000, jam := none } })) ∧
    (v.toNat ≤ 1000 → s.prot.trip = false → s.gate.isJammed = false →
      exec (.gateSet v) s = .next (State.answer 0x21 100 (.plain .done) { s with
        gate := Gate.decide { s.gate with target := min v.toNat s.water.ceiling } })) ∧
    (1000 < v.toNat → exec (.gateSet v) s = .next (State.answer 0x21 100 (.plain .range) s)) ∧
    (v.toNat ≤ 1000 → (s.prot.trip = true ∨ s.gate.isJammed = true) →
      exec (.gateSet v) s = .next (State.answer 0x21 100 (.plain .state) s)) ∧
    (v.toNat ≤ 1000 → s.gate.driving = false → s.gate.shut = false → s.gate.full = false →
      exec (.gateCalibrate v) s = .next (State.answer 0x22 100 (.plain .done) { s with
        gate := Gate.decide { s.gate with p := v.toNat, prescaler := 0, calibrated := true } })) ∧
    exec (.gateTrimSet v w) s = .next (State.answer 0x24 100 (.plain .done) { s with
      gate := { s.gate with float := min v.toNat s.gov.bCap, deadband := max 10 (min 500 w.toNat) } })

/-- R49: the float target F counts D in Preparing, Released and Cutting alone; a trim decision moves g_t by 5 within 0
and the ceiling, and none is taken in a trip or in Jammed. TRIM_DECISION taken as a step of its own acts whatever the trim
counter holds, and leaves it: the model's choice (DESIGN CHOICE, log 6). -/
def Obligations.TrimMovesTheTarget : Prop :=
  ∀ s : State, s.awake →
    let d := if s.saw.state = .preparing ∨ s.saw.state = .released ∨ s.saw.state = .cutting then s.saw.draw.getD 0 else 0
    let f := s.gate.float + d
    (s.prot.trip = true ∨ s.gate.isJammed = true → exec .trimDecision s = .next s) ∧
    (s.prot.trip = false → s.gate.isJammed = false →
      (f + s.gate.deadband < s.gov.bs → 0 < s.gate.target →
        exec .trimDecision s = .next { s with gate := Gate.decide { s.gate with target := s.gate.target - 5 } }) ∧
      (f + s.gate.deadband < s.gov.bs → s.gate.target = 0 → exec .trimDecision s = .next s) ∧
      (s.gov.bs + s.gate.deadband < f → s.gate.target < s.water.ceiling →
        exec .trimDecision s = .next { s with
          gate := Gate.decide { s.gate with target := min s.water.ceiling (s.gate.target + 5) } }) ∧
      (s.gov.bs + s.gate.deadband < f → s.gate.target = s.water.ceiling → exec .trimDecision s = .next s) ∧
      (s.gov.bs ≤ f + s.gate.deadband → f ≤ s.gov.bs + s.gate.deadband → exec .trimDecision s = .next s))

/-! ### Water plan -/

/-- R58, R59, R64, R66: PLAN LOAD replaces the table and chooses the band afresh, or answers RANGE; the hold timer's end
brings band 1 into force. What follows within the event: DEDUCED, log 17. -/
def Obligations.PlanLoadAndHoldTimerChooseTheBand : Prop :=
  ∀ (bands : List (BitVec 40)) (s : State),
    (s.accepts → planInRange (bands.map bandOf) = false →
      exec (.planLoad bands) s = .next (State.answer 0x29 400 (.plain .range) s)) ∧
    (s.accepts → planInRange (bands.map bandOf) = true → ∃ n,
      exec (.planLoad bands) s = .next (State.answer 0x29 400 (.plain .done) (State.settle s { s with
        water := { s.water with plan := some ⟨bands.map bandOf, n⟩ }
        attn := s.attn ||| 0x0080 })) ∧
      1 ≤ n ∧ n ≤ bands.length ∧
      (∀ l, (s.water.source = .live ∨ s.water.source = .holding) → s.water.level = some l →
        ∀ (i : Nat) (b : Band), (bands.map bandOf)[i]? = some b → (i + 1 ≤ n ↔ b.threshold ≤ l)) ∧
      (s.water.source ≠ .live → s.water.source ≠ .holding → n = 1)) ∧
    (s.awake → s.water.source = .holding → s.stale .holdTimerExpiry = false →
      exec .holdTimerExpiry s = .next (State.settle s { s with
        water := { s.water with
          source := .lost, hold := none, plan := s.water.plan.map (fun p => { p with inForce := 1 }) } }))

/-- R62: each level moves the band in force up while it passes the next threshold by 20, and down while it lies below
the band's own, and so to one band alone. R61, R87, R126, R188: a REPORT of the Gauge station, read from its thirteen
characters, brings a level. -/
def Obligations.LevelsMoveTheBandWithHysteresis : Prop :=
  (∀ (p : WaterPlan) (l : Nat), p.sound = true →
    let b := p.inForce
    let q := (p.follow l).inForce
    (p.follow l).bands = p.bands ∧ 1 ≤ q ∧ q ≤ p.bands.length ∧
      (b < q → (p.band q).threshold + 20 ≤ l ∧ (q < p.bands.length → l < (p.band (q + 1)).threshold + 20)) ∧
      (q < b → l < (p.band (q + 1)).threshold ∧ (p.band q).threshold ≤ l) ∧
      (q = b → (p.band b).threshold ≤ l ∧ (b < p.bands.length → l < (p.band (b + 1)).threshold + 20))) ∧
  (∀ (n : Slot) (st : Station) (level : Half) (rest : BitVec 40) (s : State), s.awake →
    s.station n = some st → (st.life = .enrolled ∨ st.life = .retiring) → st.service = none →
    s.port.phase = .receiving → s.stale .replyEnd = false → s.port.framing = false → s.port.turn = some ⟨.query n, some .gauge, false⟩ →
    s.port.reply = withCrc ([stationNumber n, 0x81, stationNumber n, 1] ++ halfBytes level ++ splitBand rest) →
    ∃ t, exec .replyEnd s = .next t ∧ t.water.source = .live ∧ t.water.level = some (min level.toNat 4000) ∧
      t.water.hold = none ∧ t.water.plan = s.water.plan.map (WaterPlan.follow (min level.toNat 4000)))

/-! ### Station table -/

/-- R77, R78: PROVISION fills a Vacant record with a serial no record holds, and claims a stray with an ASSIGN; EDIT
stages a plan. What follows within the event: DEDUCED, log 17. -/
def Obligations.ProvisionAndEditWriteTheRecord : Prop :=
  ∀ (slot kind cls connect : Byte) (x : Serial) (limit : Half) (n : Slot) (s : State), s.accepts →
    slotOf slot = some n → cls.toNat ≤ 3 → limit.toNat ≤ 2000 →
    (kind = 0 → (connect = 0 ∨ connect = 1) → s.station n = none →
      (∀ m st, s.station m = some st → st.serial ≠ x) →
      let r : Record := ⟨false, some
        { serial := x, life := .provisioned, missed := 0, silence := none, mute := .idle,
          service := some
            { connectOnEnrol := decide (connect = 1), limit := limit.toNat, cls := cls.toNat, staged := none,
              ack := none, demand := none, condition := .off, tripCount := false, live := 0,
              pushDeferred := false } }⟩
      (x ∉ s.engine.strays →
        exec (.provision slot kind x cls limit connect) s =
          .next (State.answer 0x32 400 (.plain .done) (State.settle s { s with table := s.table.set n r }))) ∧
      (x ∈ s.engine.strays → s.engine.hasErrand x = false → s.engine.errands.length < 4 →
        exec (.provision slot kind x cls limit connect) s =
          .next (State.answer 0x32 400 (.plain .done) (State.settle s { s with
            table := s.table.set n r
            engine := { s.engine with
              strays := s.engine.strays.filter (fun y => decide (y ≠ x))
              errands := s.engine.errands ++ [.assign x n .claim 0] } })))) ∧
    (kind = 1 → (connect = 0 ∨ connect = 1) → s.station n = none →
      (∀ m st, s.station m = some st → st.serial ≠ x ∧ st.kind ≠ .gauge) → x ∉ s.engine.strays →
      exec (.provision slot kind x cls limit connect) s =
        .next (State.answer 0x32 400 (.plain .done) (State.settle s { s with
          table := s.table.set n ⟨false, some
            { serial := x, life := .provisioned, missed := 0, silence := none, mute := .idle, service := none }⟩
          water := { s.water with source := .waiting, level := none, hold := none } }))) ∧
    (kind = 0 → (connect = 0 ∨ connect = 1) → s.station n = none → (∃ m st, s.station m = some st ∧ st.serial = x) →
      exec (.provision slot kind x cls limit connect) s = .next (State.answer 0x32 400 (.plain .duplicate) s)) ∧
    (∀ st sv, s.station n = some st → st.service = some sv → st.life ≠ .retiring →
      exec (.edit slot limit cls) s = .next (State.answer 0x33 100 (.plain .done) { s with
        table := s.table.set n ⟨(s.record n).changed, some { st with
          service := some { sv with staged := some ⟨limit.toNat, cls.toNat, false⟩ } }⟩ }))

/-- R100: a rise by x is granted exactly where M + x is at most K - R, and answered NOPLAN exactly without a plan. -/
def Obligations.AdmissionComparesWithTheCapacity : Prop :=
  ∀ (x : Nat) (s : State),
    (s.admission x = .granted ↔ ∃ k, s.water.capacity = some k ∧ s.committed + x + s.account.reserve ≤ k) ∧
    (s.admission x = .noplan ↔ s.water.plan = none) ∧
    (s.admission x = .refused ↔ ∃ k, s.water.capacity = some k ∧ k < s.committed + x + s.account.reserve)

/-- R79, R80, R81: CLOSE connects an Off record and RELEASE a tripped one as the account admits them; OPEN makes a
record Off. What follows within the event: DEDUCED, log 17. -/
def Obligations.CloseOpenReleaseMoveTheCondition : Prop :=
  ∀ (slot : Byte) (n : Slot) (st : Station) (sv : Service) (s : State), s.accepts → slotOf slot = some n →
    s.station n = some st → st.life = .enrolled → st.service = some sv →
    let put := fun sv' : Service =>
      { s with table := s.table.set n ⟨(s.record n).changed, some { st with service := some sv' }⟩ }
    (sv.condition = .off → 10 ≤ sv.limit →
      (s.admission sv.limit = .granted → exec (.closeSlot slot) s =
        .next (State.answer 0x34 100 (.plain .done) (State.settle s (put { sv with condition := .connected })))) ∧
      (s.admission sv.limit = .refused → exec (.closeSlot slot) s = .next (State.answer 0x34 100 (.plain .refused) s)) ∧
      (s.admission sv.limit = .noplan → exec (.closeSlot slot) s = .next (State.answer 0x34 100 (.plain .noplan) s))) ∧
    (sv.condition = .off → sv.limit < 10 →
      exec (.closeSlot slot) s = .next (State.answer 0x34 100 (.plain .range) s)) ∧
    exec (.openSlot slot) s =
      .next (State.answer 0x35 100 (.plain .done) (State.settle s (put { sv with condition := .off }))) ∧
    (sv.condition.isTrip = true → 10 ≤ sv.limit → s.admission sv.limit = .granted → exec (.releaseSlot slot) s =
      .next (State.answer 0x36 100 (.plain .done)
        (State.settle s (put { sv with condition := .connected, tripCount := false }))))

/-- R82, R83: RETIRE of a Provisioned Service record empties it; an Enrolled Service record whose station still holds
its breaker closed becomes Retiring, Off and without a limit; an Enrolled Gauge record is muted at once. What follows
within the event: DEDUCED, log 17. -/
def Obligations.RetireStartsTheRetirement : Prop :=
  ∀ (slot : Byte) (n : Slot) (st : Station) (s : State), s.accepts → slotOf slot = some n → s.station n = some st →
    (∀ sv, st.service = some sv → st.life = .provisioned →
      exec (.retireSlot slot) s = .next (State.answer 0x37 100 (.plain .done) (State.settle s { s with
        table := s.table.set n ⟨(s.record n).changed, none⟩ }))) ∧
    (∀ sv a, st.service = some sv → st.life = .enrolled → sv.ack = some a → a.closed = true →
      exec (.retireSlot slot) s = .next (State.answer 0x37 100 (.plain .started) (State.settle s { s with
        table := s.table.set n ⟨(s.record n).changed, some { st with
          life := .retiring
          mute := .idle
          service := some { sv with condition := .off, staged := none, limit := 0 } }⟩ }))) ∧
    (st.service = none → st.life = .enrolled → s.engine.hasErrand st.serial = false → s.engine.errands.length < 4 →
      exec (.retireSlot slot) s = .next (State.answer 0x37 100 (.plain .started) (State.settle s { s with
        table := s.table.set n ⟨(s.record n).changed, some { st with life := .retiring, mute := .queued }⟩
        engine := { s.engine with errands := s.engine.errands ++ [.mute st.serial] } }))) ∧
    (st.life = .retiring → exec (.retireSlot slot) s = .next (State.answer 0x37 100 (.plain .state) s))

/-- R63, R88, R90, R91, R94: the record timers, and the link of a Service and of the Gauge record becoming Silent, by which
a Live level source passes to Holding. What follows within the event: DEDUCED, log 17. -/
def Obligations.RecordTimersRunOut : Prop :=
  ∀ (n : Slot) (st : Station) (s : State), s.awake → s.station n = some st →
    (st.life = .enrolled ∨ st.life = .retiring) →
    let put := fun (changed : Bool) (st' : Station) => { s with table := s.table.set n ⟨changed, some st'⟩ }
    let changed := (s.record n).changed
    (st.silence = none → st.missed = 2 → exec (.recordLinkSilent n) s =
      .next (State.settle s { put true { st with missed := 3, silence := some 0 } with
        attn := if changed then s.attn else s.attn ||| 0x1000
        water :=
          if st.service = none ∧ s.water.source = .live then
            { s.water with source := .holding, hold := some 300000000 }
          else s.water })) ∧
    (st.silence ≠ none → s.stale (.silenceTimeLimit n) = false →
      exec (.silenceTimeLimit n) s =
        .next (State.settle s (put changed { st with silence := some 600000000 }))) ∧
    (∀ sv, st.service = some sv →
      (∀ t, st.life = .enrolled → sv.condition = .tripped (some t) → s.stale (.recloseTimerExpiry n) = false →
        exec (.recloseTimerExpiry n) s =
          .next (put changed { st with service := some { sv with condition := .tripped none } })) ∧
      (sv.condition = .connected → sv.ackClosed = true → s.stale (.liveTimeLimit n) = false →
        exec (.liveTimeLimit n) s =
          .next (put changed { st with service := some { sv with live := 600000000, tripCount := false } })))

/-! ### Supply account -/

/-- R102 to R104, R106: APPLY answers RANGE, BUSY, or with its two counts, STARTED where it has a working set;
APPLY_COMPLETE writes the last Apply result and raises APPLY. What follows within the event: DEDUCED, log 17. -/
def Obligations.ApplyAnswersWithItsCounts : Prop :=
  ∀ (scope : Byte) (s : State),
    (s.accepts → 192 ≤ scope.toNat → exec (.applyPlans scope) s = .next (State.answer 0x41 400 (.plain .range) s)) ∧
    (s.accepts → (scopeOf scope).isSome = true → s.account.apply ≠ none →
      exec (.applyPlans scope) s = .next (State.answer 0x41 400 (.plain .busy) s)) ∧
    (∀ sc, s.accepts → scopeOf scope = some sc → s.account.apply = none →
      let r := s.applyAll sc
      let counts := [BitVec.ofNat 8 r.2.1.length, BitVec.ofNat 8 r.2.2]
      (r.2.1 = [] → exec (.applyPlans scope) s =
        .next (State.answer 0x41 400 (.fixed .done counts) (State.settle s r.1))) ∧
      (r.2.1 ≠ [] → exec (.applyPlans scope) s =
        .next (State.answer 0x41 400 (.fixed .started counts) (State.settle s { r.1 with
          account := { r.1.account with
            apply := some ⟨scope, r.2.1.map (fun n => (n, .pending)), r.2.2⟩ } })))) ∧
    (∀ a, s.awake → s.account.apply = some a → a.count .pending = 0 →
      exec .applyComplete s = .next { s with
        account := { s.account with
          apply := none
          last := some ⟨a.marks.length, a.deferred, a.count .unconfirmed⟩ }
        attn := s.attn ||| 0x0200 })

/-- R103: an APPLY of one slot. A lowering of a Connected record is taken, a raise is taken where the account admits it,
and a raise it refuses leaves the limit, takes the class and marks the plan raise-deferred. -/
def Obligations.ApplyTakesTheStagedPlan : Prop :=
  ∀ (n : Slot) (st : Station) (sv : Service) (p : Staged) (s : State), s.station n = some st → st.life = .enrolled →
    st.service = some sv → sv.condition = .connected → sv.staged = some p → 10 ≤ p.limit →
    let put := fun sv' : Service =>
      { s with table := s.table.set n ⟨(s.record n).changed, some { st with service := some sv' }⟩ }
    let taken := put { sv with limit := p.limit, cls := p.cls, staged := none }
    let moved := if p.limit = sv.limit ∧ p.cls = sv.cls then [] else [n]
    (p.limit ≤ sv.limit → s.applyAll (.slot n) = (taken, moved, 0)) ∧
    (sv.limit < p.limit → s.admission (p.limit - sv.limit) = .granted → s.applyAll (.slot n) = (taken, moved, 0)) ∧
    (sv.limit < p.limit → s.admission (p.limit - sv.limit) ≠ .granted → s.applyAll (.slot n) =
      (put { sv with cls := p.cls, staged := some { p with deferred := true } },
        if p.cls = sv.cls then [] else [n], 1))

/-- R111 to R115: a restore tick in Balanced restarts its timer and takes at most one action: the reclose of the lowest
record that is due; else, while the frequency is settled, the frequency restore of the first record in restore order whose
former demand Bs carries with 100 to spare; else the capacity restore of the first in restore order. Each is connected as
the account admits it, and made Off where its limit is below 10. A saw in Waiting is then asked admission again. What follows
within the event: DEDUCED, log 17. -/
def Obligations.RestoreTickTakesOneAction : Prop :=
  ∀ s : State, s.awake → s.stale .restoreTick = false → s.account.isOver = false → s.overcommitted = false →
    let restarted := { s with account := { s.account with tick := some 5000000 } }
    let put := fun (n : Slot) (st : Station) (sv : Service) (condition : Condition) =>
      Host.Outcome.next (State.settle s { restarted with
        table := s.table.set n ⟨true, some { st with service := some { sv with condition := condition } }⟩
        attn := if (s.record n).changed then s.attn else s.attn ||| 0x1000 })
    let connected := fun sv : Service => if sv.limit < 10 then Condition.off else .connected
    let allowed := fun sv : Service => sv.limit < 10 ∨ s.admission sv.limit = .granted
    let first := fun (n : Slot) (sv : Service) (wanted : Service → Bool) =>
      sv.cls ≤ 3 ∧ wanted sv = true ∧ ∀ m su sw, s.enrolledService m = some (su, sw) →
        (sw.cls < sv.cls ∨ sw.cls = sv.cls ∧ m < n) → wanted sw = false
    let lowestDue := fun n : Slot => ∀ m su sw, m < n → s.enrolledService m = some (su, sw) → sw.condition ≠ .tripped none
    let noReclose := ∀ m su sw, s.enrolledService m = some (su, sw) → sw.condition = .tripped none → lowestDue m →
      ¬ allowed sw
    let noneReady := s.prot.settled ≠ .holds ∨
      ∀ m su sw, s.enrolledService m = some (su, sw) → frequencyReady s.gov.bs sw = false
    (s.saw.state ≠ .waiting → ∀ n st sv, s.enrolledService n = some (st, sv) →
      (sv.condition = .tripped none → lowestDue n → allowed sv → exec .restoreTick s = put n st sv (connected sv)) ∧
      (noReclose → s.prot.settled = .holds → first n sv (frequencyReady s.gov.bs) →
        (∀ d, sv.condition = .shed (some d) true → exec .restoreTick s = put n st sv (.shed none true)) ∧
        (∀ d, sv.condition = .shed (some d) false → allowed sv → exec .restoreTick s = put n st sv (connected sv)) ∧
        (∀ d, sv.condition = .shed (some d) false → ¬ allowed sv → exec .restoreTick s = put n st sv (.shed none true))) ∧
      (noReclose → noneReady → first n sv (fun sw => decide (sw.condition = .shed none true)) →
        (allowed sv → exec .restoreTick s = put n st sv (connected sv)) ∧
        (¬ allowed sv → exec .restoreTick s = .next (State.settle s restarted)))) ∧
    (∀ d, noReclose → noneReady →
      (∀ m su sw, s.enrolledService m = some (su, sw) → sw.condition ≠ .shed none true) →
      s.saw.state = .waiting → s.saw.draw = some d →
      (s.admission d = .granted → exec .restoreTick s = .next (State.settle s { restarted with
        saw := { s.saw with
          state := .preparing, draw := some d, reserved := d, waiting := none, preparing := some 180000000 } })) ∧
      (s.admission d ≠ .granted → exec .restoreTick s = .next (State.settle s restarted)))

/-- R92, R109, R110: a curtailment pass ends with P within K - R, or with no Connected record of class 1 to 3 and no saw
permit left; a class is shed only while P, less what the classes above it gave, exceeds K - R; class 0 is never shed, no
record becomes Connected, and the account is marked unresolvable exactly where the pass falls short. -/
def Obligations.CurtailmentShedsUntilItFits : Prop :=
  ∀ s : State,
    let t := s.curtail
    let above := fun c : Nat => (slots.map (fun m =>
      match s.onLineService m with
      | some (st, sv) => if c < sv.cls ∧ sv.cls ≤ 3 then 0 else st.intendedShare
      | none => 0)).sum + (if c < s.saw.cls ∧ s.saw.cls ≤ 3 then s.saw.withdraw else s.saw).reserved
    (t.short = false ∨
      ((∀ n st sv, t.onLineService n = some (st, sv) → sv.condition = .connected → sv.cls = 0 ∨ 3 < sv.cls) ∧
        (1 ≤ t.saw.cls → t.saw.cls ≤ 3 → t.saw.hasPermit = false))) ∧
    (∀ n, t.station n ≠ s.station n → ∃ st sv r, s.onLineService n = some (st, sv) ∧ s.room = some r ∧
      1 ≤ sv.cls ∧ sv.cls ≤ 3 ∧ r < (above sv.cls : Int)) ∧
    (t.saw ≠ s.saw → ∃ r, s.room = some r ∧ 1 ≤ s.saw.cls ∧ s.saw.cls ≤ 3 ∧ r < (above s.saw.cls : Int)) ∧
    (∀ n st sv, s.station n = some st → st.service = some sv → sv.cls = 0 → t.station n = some st) ∧
    (∀ n st sv, t.station n = some st → st.service = some sv → sv.condition = .connected →
      s.station n = some st) ∧
    (s.account.unresolvable = false → t.account.unresolvable = t.short)

/-! ### Field line -/

/-- R60, R83, R119, R124, R125, R128, R136, R142: the phases of a turn, what the sent events of SHED, MUTE and LINE CLEAR do,
and a void turn, which hands over nothing. The gap of 4,042 us is a character and 3 ms (DESIGN CHOICE, log 11; DEDUCED, log
12), and a start bit is taken at its edge (DESIGN CHOICE, log 49). Any MUTE empties a Retiring record of its serial (DEDUCED, log
31). What follows within the event: DEDUCED, log 17. -/
def Obligations.LinePortPhasesFollowTheTurn : Prop :=
  ∀ s : State, s.awake →
    let quiet := { s with port := { s.port with
      phase := .quiet, reply := [], framing := false, timer := some 5000, gap := none, limit := none } }
    (s.port.phase = .transmitting → s.stale .transmissionEnd = false →
      (∀ t, s.port.turn = some t → t.message.expectsReply = true →
        exec .transmissionEnd s = .next (State.settle s { s with
          port := { s.port with phase := .window, timer := some 25000 } })) ∧
      (∀ c amount e, s.port.turn = some ⟨.shed c amount, e, false⟩ →
        exec .transmissionEnd s = .next (State.settle s { quiet with
          gov := { s.gov with ff := max (-16000) (min 16000 (s.gov.ff + (amount : Int))) } })) ∧
      (∀ x n st e, s.port.turn = some ⟨.mute x, e, false⟩ → s.station n = some st → st.serial = x →
        (∀ m su, s.station m = some su → su.serial = x → m = n) → st.life = .retiring →
        exec .transmissionEnd s = .next (State.settle s { quiet with
          table := s.table.set n ⟨true, none⟩
          attn := if (s.record n).changed then s.attn else s.attn ||| 0x1000
          water :=
            if st.service = none then
              ⟨s.water.plan.map (fun p => { p with inForce := 1 }), .absent, none, none⟩
            else s.water })) ∧
      (∀ x e, s.port.turn = some ⟨.mute x, e, false⟩ →
        (∀ m su, s.station m = some su → su.serial = x → su.life ≠ .retiring) →
        exec .transmissionEnd s = .next (State.settle s quiet)) ∧
      (∀ e, s.port.turn = some ⟨.lineClear, e, false⟩ →
        exec .transmissionEnd s = .next (State.settle s { quiet with engine := { s.engine with fresh := false } })) ∧
      (∀ t, s.port.turn = some t → t.void = true → t.message.expectsReply = false →
        exec .transmissionEnd s = .next (State.settle s quiet))) ∧
    (∀ t, s.port.turn = some t → t.void = true →
      (s.port.phase = .window → s.stale .replyWindowTimeout = false →
        exec .replyWindowTimeout s = .next (State.settle s quiet)) ∧
      (s.port.phase = .receiving → s.stale .replyEnd = false → exec .replyEnd s = .next (State.settle s quiet)) ∧
      (s.port.phase = .receiving → s.stale .replyLengthLimit = false →
        exec .replyLengthLimit s = .next (State.settle s quiet))) ∧
    (∀ (samples : BitVec 9) (stop : Bool), samples.getLsbD 0 = false →
      (s.port.phase = .window → exec (.replyStartBit samples stop) s = .next { s with port := { s.port with
        phase := .receiving, reply := [samples.extractLsb' 1 8], framing := !stop, timer := none,
        gap := some 4042, limit := some 60000 } }) ∧
      (s.port.phase = .receiving → exec (.replyStartBit samples stop) s = .next { s with port := { s.port with
        reply := s.port.reply ++ [samples.extractLsb' 1 8], framing := s.port.framing || !stop,
        gap := some 4042 } }) ∧
      (s.port.phase ≠ .window → s.port.phase ≠ .receiving → exec (.replyStartBit samples stop) s = .next s)) ∧
    (∀ (samples : BitVec 9) (stop : Bool), samples.getLsbD 0 = true → exec (.replyStartBit samples stop) s = .next s) ∧
    (s.port.phase = .quiet → s.stale .turnEnd = false → s.engine.stopping = false →
      exec .turnEnd s = .next (State.settle s { s with port := LinePort.atReset }))

/-- R88, R124 to R126, R143: a QUERY or an ORDER that meets silence, a reply too long, or a garbled one, is a miss of its
record, and a missed ORDER defers the push. An ASSIGN so missed for the first or second time becomes the newest errand, and
is given up at the third. What follows within the event: DEDUCED, log 17. -/
def Obligations.UnansweredTurnsAreMisses : Prop :=
  ∀ s : State, s.awake →
    let quiet := { s with port := { s.port with
      phase := .quiet, reply := [], framing := false, timer := some 5000, gap := none, limit := none } }
    let ends := fun u : State =>
      (s.port.phase = .window → s.stale .replyWindowTimeout = false →
        exec .replyWindowTimeout s = .next (State.settle s u)) ∧
      (s.port.phase = .receiving → s.stale .replyLengthLimit = false →
        exec .replyLengthLimit s = .next (State.settle s u)) ∧
      (s.port.phase = .receiving → (s.port.framing = true ∨ replyOf s.port.reply = none) → s.stale .replyEnd = false →
        exec .replyEnd s = .next (State.settle s u))
    (∀ n e st, s.station n = some st → (st.life = .enrolled ∨ st.life = .retiring) → st.silence = none → st.missed < 2 →
      (s.port.turn = some ⟨.query n, e, false⟩ → ends { quiet with
        table := s.table.set n ⟨(s.record n).changed, some { st with missed := st.missed + 1 }⟩ }) ∧
      (∀ sent sv, s.port.turn = some ⟨.order n sent, e, false⟩ → st.service = some sv → ends { quiet with
        table := s.table.set n ⟨(s.record n).changed, some { st with
          missed := st.missed + 1, service := some { sv with pushDeferred := true } }⟩ })) ∧
    (∀ x n e o attempts rest, s.port.turn = some ⟨.assign x n, e, false⟩ →
      s.engine.errands = .assign x n o attempts :: rest → (∀ r ∈ rest, Errand.isAssign x n r = false) →
      (attempts < 2 → ends { quiet with
        engine := { s.engine with errands := rest ++ [.assign x n o (attempts + 1)] } }) ∧
      (attempts = 2 → (∀ m su, s.station m = some su → su.mute ≠ .wanted) → ends { quiet with
        engine := { s.engine with
          errands := rest, abandoned := min 255 (s.engine.abandoned + 1), lastAbandoned := some x }
        attn := s.attn ||| 0x0400 }))

/-- R83, R86, R89, R126, R144, R145, R188: a REPORT that answers the QUERY or the ORDER of an Enrolled or Retiring Service
record, read from its thirteen characters: the record is answered, takes the acknowledged settings, the demand and a new
trip, and is muted where it has nothing more to enforce; the slot leaves the push hold set, or joins it where an ORDER
was disobeyed. What follows within the event: DEDUCED, log 17. -/
def Obligations.ValidReportUpdatesTheRecord : Prop :=
  ∀ (n : Slot) (st : Station) (sv : Service) (closed : Bool) (limit demand : Half) (cls trip : Byte) (m : Message)
    (s : State), s.awake → s.stale .replyEnd = false →
    s.station n = some st → (st.life = .enrolled ∨ st.life = .retiring) → st.service = some sv → cls.toNat ≤ 3 →
    trip.toNat ≤ 2 → s.port.phase = .receiving → s.port.framing = false →
    s.port.turn = some ⟨m, some .service, false⟩ → (m = .query n ∨ ∃ sent, m = .order n sent) →
    s.port.reply = withCrc ([stationNumber n, 0x81, stationNumber n, 0, if closed then 1 else 0] ++ halfBytes limit ++
      [cls] ++ halfBytes demand ++ [trip]) →
    let newTrip := st.life = .enrolled ∧ trip ≠ 0 ∧ sv.condition.isTrip = false ∧ sv.ackClosed = true
    let sv' : Service := { sv with
      ack := some ⟨closed, min limit.toNat 4095, cls.toNat⟩
      demand := some (min demand.toNat 4095)
      pushDeferred := false
      condition :=
        if newTrip then
          (if trip = 2 then .isolated .leakage
          else if sv.tripCount then .isolated .overcurrent
          else .tripped (some 60000000))
        else sv.condition
      tripCount := sv.tripCount || decide (newTrip ∧ trip = 1)
      live := if newTrip then 0 else sv.live }
    let st' : Station := { st with missed := 0, silence := none, service := some sv' }
    let changed := (s.record n).changed || st.silence.isSome || decide newTrip
    let ready := st.life = .retiring ∧ closed = false ∧ limit = 0 ∧ sv.limit = 0 ∧ sv.cls = cls.toNat
    ∃ u, exec .replyEnd s = .next (State.settle s u) ∧ u.port.phase = .quiet ∧ u.gov = s.gov ∧ u.water = s.water ∧
      (¬ ready ∨ st.mute ≠ .idle → u.record n = ⟨changed, some st'⟩ ∧ u.engine.errands = s.engine.errands) ∧
      (ready → st.mute = .idle → s.engine.hasErrand st.serial = false → s.engine.errands.length < 4 →
        u.record n = ⟨changed, some { st' with mute := .queued }⟩ ∧
          u.engine.errands = s.engine.errands ++ [.mute st.serial]) ∧
      (∀ k, k ≠ n → u.record k = s.record k ∧ (k ∈ u.engine.hold ↔ k ∈ s.engine.hold)) ∧
      (m = .query n → n ∉ u.engine.hold) ∧
      (∀ sent, m = .order n sent →
        (n ∈ u.engine.hold ↔ n ∈ s.engine.hold ∨ st'.target sv' = sent ∧ sv'.ack ≠ some sent))

/-- R84, R143, R188: a TAKE that answers the ASSIGN of a Provisioned Service record, read from its seventeen characters,
enrols the record: it holds what the station enforces, and the condition that the breaker, the trip indication and
admission give; that a refusal makes a record of class 0 Shed too is DEDUCED, log 39. What follows within the event:
DEDUCED, log 17. -/
def Obligations.ValidTakeEnrolsTheRecord : Prop :=
  ∀ (n : Slot) (st : Station) (sv : Service) (closed : Bool) (limit demand : Half) (cls trip : Byte) (s : State), s.awake →
    s.stale .replyEnd = false → s.station n = some st → st.life = .provisioned → st.service = some sv → cls.toNat ≤ 3 → trip.toNat ≤ 2 →
    s.port.phase = .receiving → s.port.framing = false →
    s.port.turn = some ⟨.assign st.serial n, some .service, false⟩ →
    s.port.reply = withCrc ([stationNumber n, 0x83] ++ wordBytes st.serial ++
      [stationNumber n, 0, if closed then 1 else 0] ++ halfBytes limit ++ [cls] ++ halfBytes demand ++ [trip]) →
    let condition : Condition :=
      if trip = 2 then .isolated .leakage
      else if trip = 1 then .tripped (some 60000000)
      else if closed then (if 10 ≤ sv.limit then .connected else .off)
      else if sv.connectOnEnrol = true ∧ 10 ≤ sv.limit then
        (if s.admission sv.limit = .granted then .connected else .shed none true)
      else .off
    ∃ u, exec .replyEnd s = .next (State.settle s u) ∧ u.port.phase = .quiet ∧ u.gov = s.gov ∧ u.water = s.water ∧
      u.record n = ⟨true, some { st with
        life := .enrolled
        missed := 0
        silence := none
        mute := .idle
        service := some { sv with
          ack := some ⟨closed, min limit.toNat 4095, cls.toNat⟩
          demand := some (min demand.toNat 4095)
          condition := condition
          tripCount := decide (trip = 1)
          live := 0
          pushDeferred := false } }⟩ ∧
      ∀ m, m ≠ n → (u.station m).map Station.life = (s.station m).map Station.life

/-- R127, R147, R148: the outcome of a roll step under an Active enrollment, with no stop in progress: Silence, which
may end the enrollment (R149), a Collision below and at length 32, and a Clean serial that a record holds, that no
record holds, and that finds the errand queue full. What follows within the event: DEDUCED, log 17. -/
def Obligations.RollOutcomesFollowTheirClass : Prop :=
  ∀ (p : Prefix) (x : Serial) (e : Option Kind) (s : State), s.awake → s.port.turn = some ⟨.roll p, e, false⟩ →
    s.engine.enrolment = .active .byHost false → s.engine.stopping = false →
    s.stale .replyWindowTimeout = false → s.stale .replyEnd = false →
    let c := s.engine.counts
    let quiet := { s with port := { s.port with
      phase := .quiet, reply := [], framing := false, timer := some 5000, gap := none, limit := none } }
    let becomes := fun (engine : Engine) (attn : Half) =>
      Host.Outcome.next (State.settle s { quiet with engine := engine, attn := attn })
    (s.port.phase = .window → s.engine.stack ≠ [] → exec .replyWindowTimeout s = becomes s.engine s.attn) ∧
    (s.port.phase = .window → s.engine.stack = [] → exec .replyWindowTimeout s =
      becomes { s.engine with enrolment := .inactive, lastReport := some ⟨.byHost, .complete, c⟩ } (s.attn ||| 0x0400)) ∧
    (s.port.phase = .receiving → s.port.framing = true → p.len < 32 → (∀ q ∈ s.engine.stack, p.overlaps q = false) →
      exec .replyEnd s = becomes { s.engine with stack := p.child false :: p.child true :: s.engine.stack } s.attn) ∧
    (s.port.phase = .receiving → s.port.framing = true → p.len = 32 → s.engine.stack ≠ [] →
      exec .replyEnd s =
        becomes { s.engine with counts := { c with duplicates := min 255 (c.duplicates + 1) } } (s.attn ||| 0x0400)) ∧
    (s.port.phase = .receiving → s.port.framing = false → s.port.reply = withCrc ([0, 0x82] ++ wordBytes x) →
      p.begins x = true → s.engine.hasErrand x = false →
      (∀ n st, s.station n = some st → st.serial = x → st.life ≠ .retiring →
        (∀ m su, s.station m = some su → su.serial = x → m = n) → s.engine.errands.length < 4 → s.engine.stack ≠ [] →
        exec .replyEnd s = becomes { s.engine with
          errands := s.engine.errands ++ [.assign x n .roll 0]
          counts := { c with matched := min 255 (c.matched + 1) } } s.attn) ∧
      ((∀ n st, s.station n = some st → st.serial ≠ x) → x ∉ s.engine.strays →
        (s.engine.errands.length < 4 → s.engine.strays.length < 8 → s.engine.stack ≠ [] →
          exec .replyEnd s = becomes { s.engine with
            strays := s.engine.strays ++ [x]
            errands := s.engine.errands ++ [.mute x]
            counts := { c with strays := min 255 (c.strays + 1) } } (s.attn ||| 0x0800)) ∧
        (4 ≤ s.engine.errands.length → s.engine.strays.length < 8 → (∀ q ∈ s.engine.stack, p.overlaps q = false) →
          exec .replyEnd s = becomes { s.engine with stack := p :: s.engine.stack } s.attn) ∧
        (8 ≤ s.engine.strays.length → s.engine.stack ≠ [] →
          exec .replyEnd s = becomes { s.engine with
            overflow := true
            counts := { c with dropped := min 255 (c.dropped + 1) } } (s.attn ||| 0x0800))))

/-! ### Line engine -/

/-- R136, R137: the three commands in the three engine states, with no restart pending; where the engine state stands, nothing
changes. What follows within the event: DEDUCED, log 17. -/
def Obligations.LineCommandsMoveTheEngineState : Prop :=
  ∀ s : State, s.accepts → (∀ k, s.engine.enrolment ≠ .active k true) →
    let moved := fun (code : Byte) (e : EngineState) => Host.Outcome.next (State.answer code 100 (.plain .done)
      (State.settle s { s with engine := { s.engine with state := e } }))
    let same := fun (code : Byte) (r : Result) => Host.Outcome.next (State.answer code 100 (.plain r) s)
    (s.engine.state = .stopped → exec .lineStart s = moved 0x51 .running ∧ exec .lineHold s = same 0x52 .state ∧
      exec .lineResume s = same 0x53 .state) ∧
    (s.engine.state = .running → exec .lineStart s = same 0x51 .state ∧ exec .lineHold s = moved 0x52 .held ∧
      exec .lineResume s = same 0x53 .done) ∧
    (s.engine.state = .held → exec .lineStart s = same 0x51 .state ∧ exec .lineHold s = same 0x52 .done ∧
      exec .lineResume s = moved 0x53 .running)

/-- R138: a stop with a turn in flight waits for its end; else it completes, by LINE_STOP, at TURN_END or as
LINE_STOP_COMPLETION. Stated where no record has a mute errand, so that none is placed again. The model's choices: a LINE STOP
after a LINE START within a stop in progress makes the engine Stopped again (DEDUCED, log 21), a completion with the engine Held
leaves the restart pending (DEDUCED, log 22), and LINE_STOP_COMPLETION taken alone acts on an Idle line (DESIGN CHOICE, log 6). What
follows within the event: DEDUCED, log 17. -/
def Obligations.LineStopEmptiesTheQueues : Prop :=
  ∀ s : State, s.awake → (∀ n st, s.station n = some st → st.mute = .idle) →
    let completed := fun (s : State) (state : EngineState) => { s.engine with
      state := state, cursor := 0, lastRoll := false, sheds := [], hold := [], stopping := false
      errands := s.engine.errands.filter Errand.kept
      enrolment := match s.engine.enrolment, state with
        | .active k _, .running => .active k false
        | .active k _, _ => .active k true
        | .inactive, _ => .inactive
      stack := match s.engine.enrolment, state with
        | .active _ _, .running => [.empty]
        | .active _ _, _ => []
        | .inactive, _ => [] }
    (s.host.refuses = false → s.engine.state ≠ .stopped → s.port.phase = .idle →
      exec .lineStop s = .next (State.answer 0x54 100 (.plain .done)
        (State.settle s { s with engine := completed s .stopped }))) ∧
    (s.host.refuses = false → s.engine.state ≠ .stopped → s.port.phase ≠ .idle →
      exec .lineStop s = .next (State.answer 0x54 100 (.plain .done)
        (State.settle s { s with engine := { s.engine with state := .stopped, stopping := true } }))) ∧
    (s.engine.stopping = true → s.port.phase = .idle →
      exec .lineStopCompletion s = .next (State.settle s { s with engine := completed s s.engine.state })) ∧
    (s.engine.stopping = true → s.port.phase = .quiet → s.stale .turnEnd = false →
      exec .turnEnd s = .next (State.settle s { s with
        port := LinePort.atReset, engine := completed s s.engine.state }))

/-- R124, R141 to R145, R147: the choice of a turn on an idle line, in the order of its sources. The time of the message
handed over is that of its characters (DEDUCED, log 12). A Held engine hands over a SHED on a fresh line too (DEDUCED, log 50). -/
def Obligations.TurnChoiceFollowsItsOrder : Prop :=
  ∀ s : State, s.awake → s.port.phase = .idle → s.engine.stopping = false →
    let sent := fun (m : Message) (roll : Bool) (e : Engine) => Host.Outcome.next { s with
      port := ⟨.transmitting, some ⟨m, m.slot?.bind s.kindAt, false⟩, [], false, some (frameTime m.frame.length), none, none⟩
      engine := { e with lastRoll := roll } }
    (s.engine.state = .stopped → exec .turnChoice s = .next s) ∧
    (s.engine.state = .running → s.engine.fresh = true → exec .turnChoice s = sent .lineClear false s.engine) ∧
    (∀ e rest, (s.engine.state = .held ∨ s.engine.state = .running ∧ s.engine.fresh = false) →
      s.engine.sheds = e :: rest →
      exec .turnChoice s = sent (.shed e.cls e.amount) false { s.engine with sheds := rest }) ∧
    (s.engine.state = .held → s.engine.sheds = [] → exec .turnChoice s = .next s) ∧
    (s.engine.state = .running → s.engine.fresh = false → s.engine.sheds = [] →
      (∀ x n o a rest st, s.engine.errands = .assign x n o a :: rest → s.station n = some st → st.serial = x →
        exec .turnChoice s = sent (.assign x n) false s.engine) ∧
      (∀ x rest, s.engine.errands = .mute x :: rest → (∀ m su, s.station m = some su → su.mute ≠ .wanted) →
        exec .turnChoice s = sent (.mute x) false { s.engine with errands := rest }) ∧
      (∀ x n o a rest, s.engine.errands = .assign x n o a :: rest → (∀ st, s.station n = some st → st.serial ≠ x) →
        (∀ m su, s.station m = some su → su.mute ≠ .wanted) →
        exec .turnChoice s = exec .turnChoice { s with engine := { s.engine with errands := rest } }) ∧
      (s.engine.errands = [] →
        (∀ n st sv, s.station n = some st → st.service = some sv → s.pushable n = true → s.lowering n = true →
          (∀ m, m < n → s.pushable m = false ∨ s.lowering m = false) →
          exec .turnChoice s = sent (.order n (st.target sv)) false s.engine) ∧
        (∀ n st sv, s.station n = some st → st.service = some sv → s.pushable n = true →
          (∀ m, s.pushable m = true → s.lowering m = false) → (∀ m, m < n → s.pushable m = false) →
          exec .turnChoice s = sent (.order n (st.target sv)) false s.engine) ∧
        ((∀ m, s.pushable m = false) →
          (∀ p rest k, s.engine.enrolment = .active k false → s.engine.stack = p :: rest →
            (s.engine.lastRoll = false ∨ s.pollNext = none) →
            exec .turnChoice s = sent (.roll p) true { s.engine with stack := rest }) ∧
          (∀ n, (s.engine.enrolment.steps = false ∨ s.engine.stack = [] ∨ s.engine.lastRoll = true) →
            s.pollNext = some n →
            exec .turnChoice s = sent (.query n) false { s.engine with cursor := n + 1 }) ∧
          ((s.engine.enrolment.steps = false ∨ s.engine.stack = []) → s.pollNext = none →
            exec .turnChoice s = .next s))))

/-- R143, R146, R150, R151, R153: an ASSIGN given up, the enrollment's beginnings and its stop, the rejoin interval, and
STRAY DROP. What follows within the event: DEDUCED, log 17. -/
def Obligations.EnrollmentRowsAndStrays : Prop :=
  ∀ s : State, s.awake →
    (∀ x n o rest, s.engine.errands = .assign x n o 2 :: rest → (∀ r ∈ rest, Errand.isAssign x n r = false) →
      (∀ m su, s.station m = some su → su.mute ≠ .wanted) →
      exec (.assignAbandoned x) s = .next (State.settle s { s with
        engine := { s.engine with
          errands := rest, abandoned := min 255 (s.engine.abandoned + 1), lastAbandoned := some x }
        attn := s.attn ||| 0x0400 })) ∧
    (s.host.refuses = false → s.engine.enrolment = .inactive →
      exec .enrolStart s = .next (State.answer 0x55 100 (.plain .started) (State.settle s { s with
        engine := { s.engine with
          enrolment := .active .byHost false, counts := ⟨0, 0, 0, 0⟩, stack := [⟨0, 0⟩] } }))) ∧
    (∀ k r, s.host.refuses = false → s.engine.enrolment = .active k r →
      exec .enrolStop s = .next (State.answer 0x56 100 (.plain .done) (State.settle s { s with
        engine := { s.engine with
          enrolment := .inactive
          stack := []
          lastReport := some ⟨k, .stopped, s.engine.counts⟩
          rejoin := if k = .automatic then some 60000000 else s.engine.rejoin } }))) ∧
    (∀ n st t, s.engine.state = .running → s.engine.enrolment = .inactive → s.engine.rejoin = none →
      s.station n = some st → (st.life = .enrolled ∨ st.life = .retiring) → st.silence = some t → 600000000 ≤ t →
      exec .automaticEnrollment s = .next (State.settle s { s with
        engine := { s.engine with
          enrolment := .active .automatic false, counts := ⟨0, 0, 0, 0⟩, stack := [⟨0, 0⟩] } })) ∧
    (s.stale .rejoinIntervalExpiry = false →
      exec .rejoinIntervalExpiry s = .next (State.settle s { s with engine := { s.engine with rejoin := none } })) ∧
    (∀ x, s.host.refuses = false →
      (x ∈ s.engine.strays → exec (.strayDrop x) s = .next (State.answer 0x58 100 (.plain .done) { s with
        engine := { s.engine with
          strays := s.engine.strays.filter (fun y => decide (y ≠ x)), overflow := false } })) ∧
      (x ∉ s.engine.strays → exec (.strayDrop x) s = .next (State.answer 0x58 100 (.plain .state) s)))

/-! ### Saw permit unit -/

/-- R157, R159, R162, R164: the debouncer, and the clutch edges with their feed-forward: an engagement of a Released
saw, the disengagement of one that is Cutting, Closing or in Fault, and an engagement that was not released. What
follows within the event: DEDUCED, log 17. -/
def Obligations.ClutchEdgesPostFeedForward : Prop :=
  ∀ s : State, s.awake →
    (∀ level, s.saw.raw ≠ level → exec (.sawEngChange level) s = .next { s with
      saw := { s.saw with raw := level, debounce := if level = s.saw.clutch then none else some 50000 } }) ∧
    exec (.sawEngChange s.saw.raw) s = .next s ∧
    (s.stale .debounceTimerExpiry = false →
      (∀ t, s.saw.debounce = some t → s.saw.raw = true → s.saw.clutch = false → s.saw.state = .released →
        exec .debounceTimerExpiry s = .next (State.settle s { s with
          saw := { s.saw with
            clutch := true, debounce := none, state := .cutting, idle := none, engaged := s.saw.reserved }
          gov := { s.gov with ff := max (-16000) (min 16000 (s.gov.ff - (s.saw.reserved : Int))) } })) ∧
      (∀ t, s.saw.debounce = some t → s.saw.raw = false → s.saw.clutch = true → s.saw.state = .cutting →
        exec .debounceTimerExpiry s = .next (State.settle s { s with
          saw := { s.saw with
            clutch := false, debounce := none, state := .released, idle := some 600000000, engaged := 0 }
          gov := { s.gov with ff := max (-16000) (min 16000 (s.gov.ff + (s.saw.engaged : Int))) } })) ∧
      (∀ t, s.saw.debounce = some t → s.saw.raw = false → s.saw.clutch = true →
        let freed := { s.saw with
          clutch := false, debounce := none, state := .idle, draw := none, reserved := 0, engaged := 0, waiting := none,
          preparing := none, idle := none, stuck := none }
        let gov := { s.gov with ff := max (-16000) (min 16000 (s.gov.ff + (s.saw.engaged : Int))) }
        (s.saw.state = .closing → exec .debounceTimerExpiry s = .next (State.settle s { s with saw := freed, gov := gov })) ∧
        (s.saw.state = .fault → exec .debounceTimerExpiry s = .next (State.settle s { s with
          saw := { freed with lastEvent := some .clutchFreed }, gov := gov, attn := s.attn ||| 0x2000 }))) ∧
      (∀ t, s.saw.debounce = some t → s.saw.raw = true → s.saw.clutch = false → s.saw.state = .idle →
        s.saw.draw = none → s.saw.reserved = 0 →
        exec .debounceTimerExpiry s = .next (State.settle s { s with
          saw := { s.saw with
            clutch := true, debounce := none, state := .closing, waiting := none, preparing := none, idle := none,
            stuck := some 3000000, reserved := s.saw.nominal, engaged := s.saw.nominal, lastEvent := some .unreleased }
          gov := { s.gov with ff := max (-16000) (min 16000 (s.gov.ff - (s.saw.nominal : Int))) }
          attn := s.attn ||| 0x2000 })))

/-- R158, R160 to R163, R166, R167: SAW REQUEST, answered with RANGE, STATE, then the three outcomes of admission; the saw's
timers, SAW STOP and SAW SET. What follows within the event: DEDUCED, log 17. -/
def Obligations.SawPermitIsAskedTimedAndEnded : Prop :=
  ∀ s : State, s.awake →
    let idle := { s.saw with
      state := .idle, draw := none, reserved := 0, waiting := none, preparing := none, idle := none, stuck := none }
    let closing := { s.saw with
      state := .closing, waiting := none, preparing := none, idle := none, stuck := some 3000000 }
    (s.host.refuses = false → ∀ draw : Half,
      ((draw.toNat < 100 ∨ 4000 < draw.toNat) →
        exec (.sawRequest draw) s = .next (State.answer 0x61 100 (.plain .range) s)) ∧
      (100 ≤ draw.toNat → draw.toNat ≤ 4000 → s.saw.state ≠ .idle →
        exec (.sawRequest draw) s = .next (State.answer 0x61 100 (.plain .state) s)) ∧
      (100 ≤ draw.toNat → draw.toNat ≤ 4000 → s.saw.state = .idle →
        (s.admission draw.toNat = .granted → exec (.sawRequest draw) s =
          .next (State.answer 0x61 100 (.plain .done) (State.settle s { s with
            saw := { s.saw with
              state := .preparing, draw := some draw.toNat, reserved := draw.toNat, waiting := none,
              preparing := some 180000000 } }))) ∧
        (s.admission draw.toNat = .refused → exec (.sawRequest draw) s =
          .next (State.answer 0x61 100 (.plain .started) { s with
            saw := { s.saw with state := .waiting, draw := some draw.toNat, waiting := some 120000000 } })) ∧
        (s.admission draw.toNat = .noplan → exec (.sawRequest draw) s =
          .next (State.answer 0x61 100 (.plain .noplan) s)))) ∧
    (s.saw.state = .waiting → s.stale .waitingTimerExpiry = false →
      exec .waitingTimerExpiry s = .next (State.settle s { s with
        saw := { idle with lastEvent := some .refused }, attn := s.attn ||| 0x2000 })) ∧
    (s.saw.state = .preparing → s.stale .preparingTimerExpiry = false →
      exec .preparingTimerExpiry s = .next (State.settle s { s with
        saw := { idle with lastEvent := some .noSurplus }, attn := s.attn ||| 0x2000 })) ∧
    (s.saw.state = .released → s.saw.clutch = false → s.stale .idleTimerExpiry = false →
      exec .idleTimerExpiry s = .next (State.settle s { s with saw := idle })) ∧
    (s.saw.state = .closing → s.stale .stuckTimerExpiry = false → exec .stuckTimerExpiry s = .next { s with
      saw := { s.saw with state := .fault, stuck := none, lastEvent := some .stuckClutch }
      attn := s.attn ||| 0x2000 }) ∧
    (s.host.refuses = false →
      ((s.saw.state = .waiting ∨ s.saw.state = .preparing) →
        exec .sawStop s = .next (State.answer 0x62 100 (.plain .done) (State.settle s { s with saw := idle }))) ∧
      (s.saw.state = .released → s.saw.clutch = false →
        exec .sawStop s = .next (State.answer 0x62 100 (.plain .done) (State.settle s { s with saw := idle }))) ∧
      (s.saw.state = .cutting → s.saw.clutch = true →
        exec .sawStop s = .next (State.answer 0x62 100 (.plain .done) (State.settle s { s with saw := closing }))) ∧
      ((s.saw.state = .idle ∨ s.saw.state = .closing ∨ s.saw.state = .fault) →
        exec .sawStop s = .next (State.answer 0x62 100 (.plain .done) s)) ∧
      ∀ (d : Half) (c : Byte), 100 ≤ d.toNat → d.toNat ≤ 4000 → 1 ≤ c.toNat → c.toNat ≤ 3 →
        exec (.sawSet d c) s = .next (State.answer 0x63 100 (.plain .done) { s with
          saw := { s.saw with nominal := d.toNat, cls := c.toNat } }))

/-! ### Frequency protection -/

/-- R49, R161, R171, R175: what a completion outside a trip and below the trip threshold does to the settled timer, the
under-frequency count, a saw in Preparing and the trim counter, in every order of the four receivers. The count asks B, and the
saw Bs, of the governor as each finds it, before or after the governor's own part. -/
def Obligations.CompletionsMoveProtectionAndSaw : Prop :=
  ∀ (order : List Receiver) (sense : BitVec 8) (c : Completion) (s : State), order.Perm receivers →
    s.prot.trip = false → (c.f : Int) < s.fset + (s.prot.tripOffset : Int) →
    let t := State.offer order sense c s
    let under := (c.f : Int) < s.fset - (s.prot.ufOffset : Int)
    t.prot.trip = false ∧
    t.prot.settled =
      (if s.fset - 200 ≤ (c.f : Int) then (if s.prot.settled = .stopped then .running 30000000 else s.prot.settled)
      else .stopped) ∧
    (¬ under ∨ 0 < s.gov.b ∧ 0 < t.gov.b → t.prot.uf = 0 ∧ t.prot.interval = s.prot.interval) ∧
    (under → s.gov.b = 0 → t.gov.b = 0 →
      (s.prot.uf < 2 ∨ s.prot.interval ≠ none →
        t.prot.uf = min 3 (s.prot.uf + 1) ∧ t.prot.interval = s.prot.interval ∧ t.table = s.table) ∧
      (s.prot.uf = 2 ∨ s.prot.uf = 3 → s.prot.interval = none →
        t.prot.uf = 0 ∧ t.prot.interval = some (s.prot.shedInterval * 1000000))) ∧
    (s.prot.uf < 2 ∨ s.prot.interval ≠ none →
      (∀ d, s.saw.state = .preparing → s.saw.draw = some d →
        (d + 50 ≤ s.gov.bs → d + 50 ≤ t.gov.bs → t.saw = { s.saw with
          state := .released, preparing := none, idle := some 600000000 }) ∧
        (s.gov.bs < d + 50 → t.gov.bs < d + 50 → t.saw = s.saw)) ∧
      (s.saw.state ≠ .preparing → t.saw = s.saw)) ∧
    (s.gate.trim < 15 → t.gate = { s.gate with trim := s.gate.trim + 1 }) ∧
    (s.gate.trim = 15 → t.gate.trim = 0)

/-- R169, R18, R51: a completion at or above f_set + trip offset puts a trip in force, with full ballast and a shut gate
target, whichever of the four receivers takes the completion first. R17, R49, R171: each later completion of the trip sets
full ballast on the banks that are still Ready, keeps S and e_prev, and leaves the UF counter and the gate target. -/
def Obligations.OverspeedTripsInEveryReceiverOrder : Prop :=
  ∀ (order : List Receiver) (sense : BitVec 8) (c : Completion) (s : State), order.Perm receivers →
    let t := State.offer order sense c s
    let full := t.prot.trip = true ∧ t.gov.bFine = 1024 * t.gov.bCap ∧ t.gov.b = t.gov.bCap ∧ t.gov.ff = 0 ∧
      ∀ k : BankNo, (t.gov.banks[k].on = true ↔ t.gov.banks[k].state = .ready)
    (s.prot.trip = false → s.fset + (s.prot.tripOffset : Int) ≤ (c.f : Int) →
      full ∧ t.prot.uf = 0 ∧ t.gate.target = 0 ∧ t.gov.check = none ∧ t.attn &&& 0x0008 = 0x0008) ∧
    (s.prot.trip = true →
      full ∧ t.prot.uf = s.prot.uf ∧ t.gate.target = s.gate.target ∧ t.gate.drive = s.gate.drive ∧
        t.gov.s = s.gov.s ∧ t.gov.ePrev = s.gov.ePrev ∧ t.prot.interval = s.prot.interval)

/-- R170, R19: TRIP CLEAR outside a trip, refused, and carried out with the governor's re-seed flag set. -/
def Obligations.TripClearEndsTheTrip : Prop :=
  ∀ s : State, s.accepts →
    (s.prot.trip = false → exec .tripClear s = .next (State.answer 0x74 100 (.plain .done) s)) ∧
    (s.prot.trip = true → s.fmu.state = .acquiring → exec .tripClear s = .next (State.answer 0x74 100 (.plain .state) s)) ∧
    (∀ f, s.prot.trip = true → s.fmu.state = .tracking → s.fmu.lastF = some f → s.fset + 500 ≤ (f : Int) →
      exec .tripClear s = .next (State.answer 0x74 100 (.plain .state) s)) ∧
    (∀ f, s.prot.trip = true →
      (s.fmu.state = .lost ∨ s.fmu.state = .tracking ∧ s.fmu.lastF = some f ∧ (f : Int) < s.fset + 500) →
      exec .tripClear s = .next (State.answer 0x74 100 (.plain .done) { s with
        prot := { s.prot with trip := false }
        gov := { s.gov with reseed := true } }))

/-- R171 to R174: the shed step. Its interval starts and the UF counter returns to 0 in every case; a deficit and a
pass-through shed nothing; else the Connected records of the highest class found hold the Frequency flag with their
demand. What follows within the event: DEDUCED, log 17. -/
def Obligations.ShedStepTakesTheHighestClass : Prop :=
  ∀ s : State, s.awake → s.prot.trip = false → s.prot.uf = 3 → s.prot.interval = none →
    let after := fun (o : ShedOutcome) => { s.prot with
      uf := 0, interval := some (s.prot.shedInterval * 1000000), lastStep := some o }
    ((∀ c, 1 ≤ c → c ≤ 3 → s.qualifies c = false) → exec .shedStep s = .next (State.settle s { s with
      prot := after .deficit, attn := s.attn ||| 0x0040 })) ∧
    (∀ c, 1 ≤ c → c ≤ 3 → s.qualifies c = true → (∀ d, c < d → d ≤ 3 → s.qualifies d = false) →
      ((s.prot.auto = false ∨ s.engine.state = .stopped) → exec .shedStep s = .next (State.settle s { s with
        prot := after (.passed c), attn := s.attn ||| 0x0020 })) ∧
      (s.prot.auto = true → s.engine.state ≠ .stopped → ∃ u, exec .shedStep s = .next (State.settle s u) ∧
        u.prot = after (.shed c (s.shedList c).length (shedAmount (s.shedList c))) ∧
        (∀ n sv, (n, sv) ∈ s.shedList c → ∃ st', u.station n = some st' ∧
          st'.service = some { sv with condition := .shed (some (sv.demand.getD 0)) false } ∧
          (u.record n).changed = true) ∧
        (∀ n, (∀ sv, (n, sv) ∉ s.shedList c) → u.record n = s.record n) ∧
        (s.engine.sheds = [] → u.engine = { s.engine with sheds := [⟨c, shedAmount (s.shedList c)⟩] }) ∧
        (s.saw.cls ≠ c → u.saw = s.saw) ∧ u.gov = s.gov ∧ u.gate = s.gate ∧ u.water = s.water))

/-- R37, R116, R171, R175 to R177: settings commands, with PROT SET's three outcomes, and the two protection timers. RANGE for
a mode above 01h is R181's, taken so of a flag (DEDUCED, log 28). FFFFh as a gain, a reserve or an f_set is 65,535 (DESIGN
CHOICE, log 53). What follows within the event: DEDUCED, log 17. -/
def Obligations.SettingsAreStored : Prop :=
  ∀ s : State, s.awake →
    (s.host.refuses = false →
      (∀ kp ki : Half, exec (.gainSet kp ki) s = .next (State.answer 0x11 100 (.plain .done) { s with
        gov := { s.gov with kp := min kp.toNat 4095, ki := min ki.toNat 4095 } })) ∧
      (∀ r : Half, exec (.reserveSet r) s = .next (State.answer 0x42 100 (.plain .done) (State.settle s { s with
        account := { s.account with reserve := min r.toNat 2000 } }))) ∧
      (∀ (f t u : Half) (i : Byte), s.prot.lock = true →
        exec (.protSet f t u i) s = .next (State.answer 0x71 100 (.plain .locked) s)) ∧
      (∀ (f t u : Half) (i : Byte), s.prot.lock = false → (t.toNat < 2000 ∨ 8000 < t.toNat ∨ u.toNat < 300 ∨
          3000 < u.toNat ∨ i.toNat < 1 ∨ 10 < i.toNat) →
        exec (.protSet f t u i) s = .next (State.answer 0x71 100 (.plain .range) s)) ∧
      (∀ (f t u : Half) (i : Byte), s.prot.lock = false → 2000 ≤ t.toNat → t.toNat ≤ 8000 → 300 ≤ u.toNat →
        u.toNat ≤ 3000 → 1 ≤ i.toNat → i.toNat ≤ 10 →
        exec (.protSet f t u i) s = .next (State.answer 0x71 100 (.plain .done) { s with
          gov := { s.gov with offset := max (-1000) (min 1000 ((f.toNat : Int) + 40000 - s.nominal)) }
          prot := { s.prot with tripOffset := t.toNat, ufOffset := u.toNat, shedInterval := i.toNat } })) ∧
      exec .protLock s = .next (State.answer 0x72 100 (.plain .done) { s with prot := { s.prot with lock := true } }) ∧
      exec (.shedMode 0) s = .next (State.answer 0x73 100 (.plain .done) { s with prot := { s.prot with auto := false } }) ∧
      exec (.shedMode 1) s = .next (State.answer 0x73 100 (.plain .done) { s with prot := { s.prot with auto := true } }) ∧
      (∀ m : Byte, m ≠ 0 → m ≠ 1 → exec (.shedMode m) s = .next (State.answer 0x73 100 (.plain .range) s))) ∧
    (s.stale .shedIntervalExpiry = false →
      exec .shedIntervalExpiry s = .next { s with prot := { s.prot with interval := none } }) ∧
    (∀ t, s.prot.settled = .running t → s.stale .settledTimerExpiry = false → exec .settledTimerExpiry s = .next { s with
      prot := { s.prot with settled := .holds } })

/-! ### Command port -/

/-- R38, R55, R67, R95, R96, R117, R153, R154, R167, R178, R180, R182, R183: every read changes nothing but the
response; NO-OP, ATTN CLEAR, and NEXT CHANGED, which clears the lowest changed flag. -/
def Obligations.ReadsGiveTheStateUnchanged : Prop :=
  ∀ s : State, s.accepts →
    let reads := fun (i : Instr) (code : Byte) (what : Reading) =>
      exec i s = .next (State.answer code 100 (.reading what) s)
    reads .governorRead 0x10 .governor ∧ reads .gateRead 0x20 .gate ∧ reads .planRead 0x28 .plan ∧
    reads .accountRead 0x40 .account ∧ reads .lineRead 0x50 .line ∧ reads .straysRead 0x57 .strays ∧
    reads .sawRead 0x60 .saw ∧ reads .protRead 0x70 .protection ∧ reads .attnRead 0x03 .attention ∧
    reads .ident 0x01 .ident ∧ reads .status 0x02 .status ∧
    (∀ (slot : Byte) (n : Slot), slotOf slot = some n → reads (.readRecord slot) 0x30 (.record n)) ∧
    (∀ slot : Byte, 63 < slot.toNat → exec (.readRecord slot) s = .next (State.answer 0x30 100 (.plain .range) s)) ∧
    exec .noOp s = .next (State.answer 0x00 100 (.plain .done) s) ∧
    (∀ mask : Half, exec (.attnClear mask) s = .next (State.answer 0x04 100 (.plain .done) { s with
      attn := s.attn &&& ~~~mask })) ∧
    (∀ n : Slot, (s.record n).changed = true → (∀ m : Slot, m < n → (s.record m).changed = false) →
      exec .nextChanged s = .next (State.answer 0x31 100 (.reading (.record n)) { s with
        table := s.table.set n ⟨false, (s.record n).station⟩ })) ∧
    ((∀ m : Slot, (s.record m).changed = false) →
      exec .nextChanged s = .next (State.answer 0x31 100 (.plain .done) s))

/-- R180, R181: the time in which an answer is formed, what a transaction loads, the end of a NOT READY one, the answer
to a bad frame, a transaction without a whole byte, MISO before and after, one of zeros, and the forming of a response. That forming takes at least 1 us, and the counter of the free choices, are
the model's (DESIGN CHOICE, log 5); that a transaction without a byte is ignored is DEDUCED, log 27, and that one or two bytes 00h
are a truncated frame is DEDUCED, log 52; that ATTN READ and STRAYS READ too are read when the response is formed is a DESIGN CHOICE,
log 54. -/
def Obligations.TransactionsGiveTheResponse : Prop :=
  (∀ (code : Byte) (bound : Nat) (r : Reply) (s : State), 1 ≤ bound →
    ∃ d, 1 ≤ d ∧ d ≤ bound ∧
      State.answer code bound r s =
        { s with
          host := { s.host with forming := some ⟨code, r⟩, timer := some d, transaction := none }
          choices := s.choices + 1 }) ∧
  ∀ s : State, s.awake →
    (s.host.transaction = none → s.host.forming = none → exec .transactionStart s = .next { s with
      host := { s.host with
        transaction := some ⟨s.statusByte true :: s.host.buffer.frame, false⟩ } }) ∧
    (∀ f, s.host.transaction = none → s.host.forming = some f → exec .transactionStart s = .next { s with
      host := { s.host with
        transaction := some ⟨[s.statusByte false, 0x0B, f.echo, 0x00, - (0x0B + f.echo)], true⟩ } }) ∧
    exec .notReadyRefusal s = .next { s with host := { s.host with transaction := none } } ∧
    (∀ mosi code rest, s.host.refuses = false → shiftedIn mosi = code :: rest → frameFails (code :: rest) = true →
      exec (.commandFrameError mosi) s = .next (State.answer code 100 (.plain .frame) s)) ∧
    (∀ mosi : List Bool, mosi.length < 8 →
      exec (rowOfMosi mosi) s = .next { s with host := { s.host with transaction := none } }) ∧
    (∀ n, s.host.refuses = false → 24 ≤ n →
      exec (rowOfMosi (List.replicate n false)) s = .next (State.answer 0x00 100 (.plain .done) s)) ∧
    (s.host.transaction = none → ∀ k, s.misoPin k = none) ∧
    (∀ code r payload, s.host.forming = some ⟨code, .fixed r payload⟩ → s.stale .responseReady = false →
      exec .responseReady s = .next { s with
      host := { s.host with buffer := ⟨r, code, payload⟩, forming := none, timer := none } }) ∧
    (∀ code what, s.host.forming = some ⟨code, .reading what⟩ → s.stale .responseReady = false →
      exec .responseReady s = .next { s with
      host := { s.host with buffer := ⟨.done, code, what.payload s⟩, forming := none, timer := none } })

/-- R180: bytes shifted in most significant bit first are those bytes, a final byte of fewer than eight bits discarded, a good frame
so shifted in is its command, and MISO gives its bytes in the same order. R119: the bits of a character are sampled as that
character, with its start bit seen and its stop bit at mark, and a message sends ten for each of its characters. R121, R188: over a
whole line frame, its CRC included, the register ends at 0. R181, R186, 11.6.2, 11.6.4: a response frame sums to 0 modulo 256 and
its payload has the length of its layout, at most 80. The places of the bytes within a payload are not stated. -/
def Obligations.FramesKeepTheirChecksAndLengths : Prop :=
  (∀ (bytes : List Byte) (spare : List Bool), spare.length < 8 →
    shiftedIn (bytes.flatMap msbFirst ++ spare) = bytes ∧
    ∀ i, decodeFrame bytes = .command i → rowOfMosi (bytes.flatMap msbFirst ++ spare) = i) ∧
  (∀ (t : Transaction) (n : Nat),
    (List.range (8 * n)).map t.misoBit = ((List.range n).map t.miso).flatMap msbFirst) ∧
  (∀ b : Byte, startSeen ((characterBits b).extractLsb' 0 9) = true ∧
    characterOf ((characterBits b).extractLsb' 0 9) = b ∧ (characterBits b).getLsbD 9 = true) ∧
  (∀ m : Message, m.bits.length = 10 * m.frame.length) ∧
  (∀ bytes : List Byte, crc (withCrc bytes) = 0) ∧
  (∀ m : Message, crc m.frame = 0 ∧ m.frame.length = m.body.length + 2) ∧
  (∀ r : Response, byteSum r.frame = 0 ∧ r.frame.length = r.payload.length + 4) ∧
  ∀ s : State,
    s.accountPayload.length = 27 ∧ s.statusPayload.length = 6 ∧ identPayload.length = 12 ∧
    (∀ n, (s.station n = none → (s.recordPayload n).length = 2) ∧
      (s.station n ≠ none → (s.recordPayload n).length = 29)) ∧
    (s.water.sound → s.engine.bounded → ∀ what : Reading, (what.payload s).length ≤ 80)

/-! ### Resets -/

/-- R184 and the reset tables (R14, R39, R56, R68, R97, R118, R134, R155, R168, R179): what a power-on and a pin reset
leave at their end, with no end switch active. -/
def Obligations.ResetsLeaveTheirTables : Prop :=
  ∀ (s : State) (nomsel engaged : Bool),
    let ended := fun (kind : ResetKind) (gov : Governor) (prot : Protection) => { s with
      resetting := none
      startCause := kind
      sixty := nomsel
      fmu := ⟨0, none, [], .acquiring, some 100000, none, .inRange⟩
      gov := gov
      gate := ⟨500, 0, false, 500, .stopped, none, none, 0, 300, 50, false, false⟩
      water := ⟨none, .absent, none, none⟩
      table := Vector.replicate 64 ⟨false, none⟩
      account := ⟨200, false, false, none, none, some 5000000⟩
      port := ⟨.idle, none, [], false, none, none, none⟩
      engine := Engine.atReset
      saw := { Saw.atReset with raw := engaged, debounce := if engaged then some 50000 else none }
      prot := prot
      attn := 0
      host := ⟨⟨.done, 0, []⟩, none, none, none⟩ }
    let banks := fun (ratings : Vector Nat 8) =>
      ratings.map (fun r => (⟨r, if r = 0 then .absent else .ready, 0, 0, false⟩ : Bank))
    (∃ u, exec .powerOnReset s = .next u ∧ u.attn = 0 ∧ u.host.transaction = none ∧
      exec (.resetEnd nomsel false false engaged) u = .next (ended .powerOn
        ⟨0, 0, 0, 0, 0, 0, true, 64, 16, 0, banks Config.defaultRatings, none, none⟩
        ⟨false, 0, none, .stopped, 5000, 1000, 2, true, false, none⟩)) ∧
    (s.awake → ∃ u, exec .pinReset s = .next u ∧ u.attn = 0 ∧ u.host.transaction = none ∧
      exec (.resetEnd nomsel false false engaged) u = .next (ended .pin
        ⟨0, 0, 0, 0, 0, 0, true, 64, 16, s.gov.offset, banks (s.gov.banks.map Bank.rating), none, none⟩
        ⟨false, 0, none, .stopped, s.prot.tripOffset, s.prot.ufOffset, s.prot.shedInterval, true, s.prot.lock, none⟩)) ∧
    (s.resetting = some .pin →
      (∃ u, exec (.resetEnd nomsel true false engaged) s = .next u ∧ u.startCause = .pin ∧ u.gate.p = 0 ∧
        u.gate.target = 0 ∧ u.gate.calibrated = true) ∧
      (∃ u, exec (.resetEnd nomsel true true engaged) s = .next u ∧ u.gate.drive = .jammed .switches ∧
        u.attn = s.attn ||| 0x0004))

/-- R185 and the reset tables: SUPPLY RESET clears eight flags, empties the table and the line engine, voids a turn in
flight, and keeps the measurement, the governor, the plan's table, the trip and the settings; a clutch that is in keeps
its reservation in Closing. What follows within the event: DEDUCED, log 17. -/
def Obligations.SupplyResetEmptiesTheTable : Prop :=
  ∀ s : State, s.accepts →
    exec .supplyReset s = .next (State.answer 0x05 400 (.plain .done) (State.settle s { s with
      attn := s.attn &&& 0xC09F
      water := { s.water with
        source := .absent, level := none, hold := none, plan := s.water.plan.map (fun p => { p with inForce := 1 }) }
      table := Vector.replicate 64 ⟨false, none⟩
      account := ⟨200, false, false, none, s.account.last, some 5000000⟩
      port := { s.port with turn := s.port.turn.map (fun t => { t with void := true }) }
      engine := Engine.atReset
      saw :=
        if s.saw.clutch then
          { s.saw with
            state := .closing, draw := none, waiting := none, preparing := none, idle := none, stuck := some 3000000,
            nominal := 1500, cls := 2 }
        else
          { s.saw with
            state := .idle, draw := none, reserved := 0, engaged := 0, waiting := none, preparing := none,
            idle := none, stuck := none, nominal := 1500, cls := 2 }
      prot := { s.prot with uf := 0, interval := none, settled := .stopped } }))

/-! ### Invariants of every step, and the host's frames -/

/-- 2.2, R16, R22 to R24, R33, R34, R37; a reset in progress has no trip (R179). -/
def Obligations.GovernorStaysSound : Prop := ∀ s t : State, s.governorSound → step s = .next t → t.governorSound

/-- 3.2, R40, R41, R46, R47, R51. -/
def Obligations.GateStaysSound : Prop := ∀ s t : State, s.gateSound → step s = .next t → t.gateSound

/-- 1.2, 4.2, 10.2, R57 to R64, R182. -/
def Obligations.MeasurementWaterAndAlarmsStaySound : Prop :=
  ∀ s t : State, s.fmuSound → s.water.sound → s.alarmsSound → step s = .next t →
    t.fmuSound ∧ t.water.sound ∧ t.alarmsSound

/-- 5.2, R70, R72, R88. -/
def Obligations.StationTableStaysSound : Prop := ∀ s t : State, s.tableSound → step s = .next t → t.tableSound

/-- R99, R106, R110: at rest the account is Over exactly when a plan is present and M > K - R. -/
def Obligations.AccountStaysSound : Prop := ∀ s t : State, s.accountSound → step s = .next t → t.accountSound

/-- R122, R124, R134, R138 to R140, R146, R152. -/
def Obligations.LineStaysSound : Prop := ∀ s t : State, s.lineSound → step s = .next t → t.lineSound

/-- 9.2, R156 to R164. -/
def Obligations.SawStaysSound : Prop := ∀ s t : State, s.sawSound → step s = .next t → t.sawSound

/-- The state after reset is sound in every block. -/
def Obligations.ResetStateIsSound : Prop :=
  State.reset.governorSound ∧ State.reset.gateSound ∧ State.reset.fmuSound ∧ State.reset.water.sound ∧
    State.reset.alarmsSound ∧ State.reset.tableSound ∧ State.reset.accountSound ∧ State.reset.lineSound ∧
    State.reset.sawSound

/-- R180, R181, R186, R187: the frame of every well-formed host command is read back as that command, whatever bytes
follow its check byte. -/
def Obligations.DecodeOfEncodeIsTheCommand : Prop :=
  ∀ (i : Instr) (frame extra : List Byte), i.wellFormed = true → encodeFrame i = some frame →
    decodeFrame (frame ++ extra) = .command i

/-- R180, R181, 11.7: frames written out byte by byte. -/
def Obligations.SpecFramesAreRead : Prop :=
  decodeFrame [0x34, 0x01, 0x05, 0xC6] = .command (.closeSlot 5) ∧
  decodeFrame [0x00, 0x00, 0x00, 0x00, 0x00] = .command .noOp ∧
  decodeFrame [0x04, 0x02, 0x10, 0x00, 0xEA] = .command (.attnClear 0x1000) ∧
  decodeFrame [0x34, 0x01, 0x05, 0xC7] = .rejected .badSum ∧
  decodeFrame [0x34, 0x01, 0x05] = .rejected .truncated ∧
  decodeFrame [0x06, 0x00, 0xFA] = .rejected .unknownCode ∧
  decodeFrame [0x34, 0x00, 0xCC] = .rejected .badLength ∧
  decodeFrame ([0x29, 0x29] ++ List.replicate 41 0x00 ++ [0xAE]) = .rejected .tooLong
end

