-- ==== Sys2Proof/Laws/State.lean ====
section
/-!
SUPPORT. One lemma for each field of State under each shared update of it, so that no later proof unfolds a record update.
-/

namespace Sys2Proof.Machine

/-! ### R182: raising a flag. -/

@[simp] theorem State.raise_resetting (a : Attn) (s : State) :
    (s.raise a).resetting = s.resetting := rfl

@[simp] theorem State.raise_startCause (a : Attn) (s : State) :
    (s.raise a).startCause = s.startCause := rfl

@[simp] theorem State.raise_sixty (a : Attn) (s : State) :
    (s.raise a).sixty = s.sixty := rfl

@[simp] theorem State.raise_fmu (a : Attn) (s : State) :
    (s.raise a).fmu = s.fmu := rfl

@[simp] theorem State.raise_gov (a : Attn) (s : State) :
    (s.raise a).gov = s.gov := rfl

@[simp] theorem State.raise_gate (a : Attn) (s : State) :
    (s.raise a).gate = s.gate := rfl

@[simp] theorem State.raise_water (a : Attn) (s : State) :
    (s.raise a).water = s.water := rfl

@[simp] theorem State.raise_table (a : Attn) (s : State) :
    (s.raise a).table = s.table := rfl

@[simp] theorem State.raise_account (a : Attn) (s : State) :
    (s.raise a).account = s.account := rfl

@[simp] theorem State.raise_port (a : Attn) (s : State) :
    (s.raise a).port = s.port := rfl

@[simp] theorem State.raise_engine (a : Attn) (s : State) :
    (s.raise a).engine = s.engine := rfl

@[simp] theorem State.raise_saw (a : Attn) (s : State) :
    (s.raise a).saw = s.saw := rfl

@[simp] theorem State.raise_prot (a : Attn) (s : State) :
    (s.raise a).prot = s.prot := rfl

@[simp] theorem State.raise_attn (a : Attn) (s : State) :
    (s.raise a).attn = s.attn ||| a.bit := rfl

@[simp] theorem State.raise_host (a : Attn) (s : State) :
    (s.raise a).host = s.host := rfl

@[simp] theorem State.raise_choices (a : Attn) (s : State) :
    (s.raise a).choices = s.choices := rfl

@[simp] theorem State.raise_ranOut (a : Attn) (s : State) :
    (s.raise a).ranOut = s.ranOut := rfl

@[simp] theorem State.raise_pending (a : Attn) (s : State) :
    (s.raise a).pending = s.pending := rfl

/-! ### R182: clearing the flags of a mask. -/

@[simp] theorem State.clearAttn_resetting (mask : Half) (s : State) :
    (s.clearAttn mask).resetting = s.resetting := rfl

@[simp] theorem State.clearAttn_startCause (mask : Half) (s : State) :
    (s.clearAttn mask).startCause = s.startCause := rfl

@[simp] theorem State.clearAttn_sixty (mask : Half) (s : State) :
    (s.clearAttn mask).sixty = s.sixty := rfl

@[simp] theorem State.clearAttn_fmu (mask : Half) (s : State) :
    (s.clearAttn mask).fmu = s.fmu := rfl

@[simp] theorem State.clearAttn_gov (mask : Half) (s : State) :
    (s.clearAttn mask).gov = s.gov := rfl

@[simp] theorem State.clearAttn_gate (mask : Half) (s : State) :
    (s.clearAttn mask).gate = s.gate := rfl

@[simp] theorem State.clearAttn_water (mask : Half) (s : State) :
    (s.clearAttn mask).water = s.water := rfl

@[simp] theorem State.clearAttn_table (mask : Half) (s : State) :
    (s.clearAttn mask).table = s.table := rfl

@[simp] theorem State.clearAttn_account (mask : Half) (s : State) :
    (s.clearAttn mask).account = s.account := rfl

@[simp] theorem State.clearAttn_port (mask : Half) (s : State) :
    (s.clearAttn mask).port = s.port := rfl

@[simp] theorem State.clearAttn_engine (mask : Half) (s : State) :
    (s.clearAttn mask).engine = s.engine := rfl

@[simp] theorem State.clearAttn_saw (mask : Half) (s : State) :
    (s.clearAttn mask).saw = s.saw := rfl

@[simp] theorem State.clearAttn_prot (mask : Half) (s : State) :
    (s.clearAttn mask).prot = s.prot := rfl

@[simp] theorem State.clearAttn_attn (mask : Half) (s : State) :
    (s.clearAttn mask).attn = s.attn &&& ~~~mask := rfl

@[simp] theorem State.clearAttn_host (mask : Half) (s : State) :
    (s.clearAttn mask).host = s.host := rfl

@[simp] theorem State.clearAttn_choices (mask : Half) (s : State) :
    (s.clearAttn mask).choices = s.choices := rfl

@[simp] theorem State.clearAttn_ranOut (mask : Half) (s : State) :
    (s.clearAttn mask).ranOut = s.ranOut := rfl

@[simp] theorem State.clearAttn_pending (mask : Half) (s : State) :
    (s.clearAttn mask).pending = s.pending := rfl

/-! ### R180: CS# rises. -/

@[simp] theorem State.closeTransaction_resetting (s : State) :
    s.closeTransaction.resetting = s.resetting := rfl

@[simp] theorem State.closeTransaction_startCause (s : State) :
    s.closeTransaction.startCause = s.startCause := rfl

@[simp] theorem State.closeTransaction_sixty (s : State) :
    s.closeTransaction.sixty = s.sixty := rfl

@[simp] theorem State.closeTransaction_fmu (s : State) :
    s.closeTransaction.fmu = s.fmu := rfl

@[simp] theorem State.closeTransaction_gov (s : State) :
    s.closeTransaction.gov = s.gov := rfl

@[simp] theorem State.closeTransaction_gate (s : State) :
    s.closeTransaction.gate = s.gate := rfl

@[simp] theorem State.closeTransaction_water (s : State) :
    s.closeTransaction.water = s.water := rfl

@[simp] theorem State.closeTransaction_table (s : State) :
    s.closeTransaction.table = s.table := rfl

@[simp] theorem State.closeTransaction_account (s : State) :
    s.closeTransaction.account = s.account := rfl

@[simp] theorem State.closeTransaction_port (s : State) :
    s.closeTransaction.port = s.port := rfl

@[simp] theorem State.closeTransaction_engine (s : State) :
    s.closeTransaction.engine = s.engine := rfl

@[simp] theorem State.closeTransaction_saw (s : State) :
    s.closeTransaction.saw = s.saw := rfl

@[simp] theorem State.closeTransaction_prot (s : State) :
    s.closeTransaction.prot = s.prot := rfl

@[simp] theorem State.closeTransaction_attn (s : State) :
    s.closeTransaction.attn = s.attn := rfl

@[simp] theorem State.closeTransaction_host (s : State) :
    s.closeTransaction.host = { s.host with transaction := none } := rfl

@[simp] theorem State.closeTransaction_choices (s : State) :
    s.closeTransaction.choices = s.choices := rfl

@[simp] theorem State.closeTransaction_ranOut (s : State) :
    s.closeTransaction.ranOut = s.ranOut := rfl

@[simp] theorem State.closeTransaction_pending (s : State) :
    s.closeTransaction.pending = s.pending := rfl

/-! ### R181: a response being formed. -/

@[simp] theorem State.answer_resetting (code : Byte) (bound : Nat) (r : Reply) (s : State) :
    (State.answer code bound r s).resetting = s.resetting := rfl

@[simp] theorem State.answer_startCause (code : Byte) (bound : Nat) (r : Reply) (s : State) :
    (State.answer code bound r s).startCause = s.startCause := rfl

@[simp] theorem State.answer_sixty (code : Byte) (bound : Nat) (r : Reply) (s : State) :
    (State.answer code bound r s).sixty = s.sixty := rfl

@[simp] theorem State.answer_fmu (code : Byte) (bound : Nat) (r : Reply) (s : State) :
    (State.answer code bound r s).fmu = s.fmu := rfl

@[simp] theorem State.answer_gov (code : Byte) (bound : Nat) (r : Reply) (s : State) :
    (State.answer code bound r s).gov = s.gov := rfl

@[simp] theorem State.answer_gate (code : Byte) (bound : Nat) (r : Reply) (s : State) :
    (State.answer code bound r s).gate = s.gate := rfl

@[simp] theorem State.answer_water (code : Byte) (bound : Nat) (r : Reply) (s : State) :
    (State.answer code bound r s).water = s.water := rfl

@[simp] theorem State.answer_table (code : Byte) (bound : Nat) (r : Reply) (s : State) :
    (State.answer code bound r s).table = s.table := rfl

@[simp] theorem State.answer_account (code : Byte) (bound : Nat) (r : Reply) (s : State) :
    (State.answer code bound r s).account = s.account := rfl

@[simp] theorem State.answer_port (code : Byte) (bound : Nat) (r : Reply) (s : State) :
    (State.answer code bound r s).port = s.port := rfl

@[simp] theorem State.answer_engine (code : Byte) (bound : Nat) (r : Reply) (s : State) :
    (State.answer code bound r s).engine = s.engine := rfl

@[simp] theorem State.answer_saw (code : Byte) (bound : Nat) (r : Reply) (s : State) :
    (State.answer code bound r s).saw = s.saw := rfl

@[simp] theorem State.answer_prot (code : Byte) (bound : Nat) (r : Reply) (s : State) :
    (State.answer code bound r s).prot = s.prot := rfl

@[simp] theorem State.answer_attn (code : Byte) (bound : Nat) (r : Reply) (s : State) :
    (State.answer code bound r s).attn = s.attn := rfl

@[simp] theorem State.answer_host (code : Byte) (bound : Nat) (r : Reply) (s : State) :
    (State.answer code bound r s).host = { s.host with forming := some ⟨code, r⟩, timer := some (max 1 (min (Config.responseTime s.choices) bound)), transaction := none } := rfl

@[simp] theorem State.answer_choices (code : Byte) (bound : Nat) (r : Reply) (s : State) :
    (State.answer code bound r s).choices = s.choices + 1 := rfl

@[simp] theorem State.answer_ranOut (code : Byte) (bound : Nat) (r : Reply) (s : State) :
    (State.answer code bound r s).ranOut = s.ranOut := rfl

@[simp] theorem State.answer_pending (code : Byte) (bound : Nat) (r : Reply) (s : State) :
    (State.answer code bound r s).pending = s.pending := rfl

/-! ### 5.2: one record written. -/

@[simp] theorem State.setRecord_resetting (n : Slot) (r : Record) (s : State) :
    (s.setRecord n r).resetting = s.resetting := rfl

@[simp] theorem State.setRecord_startCause (n : Slot) (r : Record) (s : State) :
    (s.setRecord n r).startCause = s.startCause := rfl

@[simp] theorem State.setRecord_sixty (n : Slot) (r : Record) (s : State) :
    (s.setRecord n r).sixty = s.sixty := rfl

@[simp] theorem State.setRecord_fmu (n : Slot) (r : Record) (s : State) :
    (s.setRecord n r).fmu = s.fmu := rfl

@[simp] theorem State.setRecord_gov (n : Slot) (r : Record) (s : State) :
    (s.setRecord n r).gov = s.gov := rfl

@[simp] theorem State.setRecord_gate (n : Slot) (r : Record) (s : State) :
    (s.setRecord n r).gate = s.gate := rfl

@[simp] theorem State.setRecord_water (n : Slot) (r : Record) (s : State) :
    (s.setRecord n r).water = s.water := rfl

@[simp] theorem State.setRecord_table (n : Slot) (r : Record) (s : State) :
    (s.setRecord n r).table = s.table.set n r := rfl

@[simp] theorem State.setRecord_account (n : Slot) (r : Record) (s : State) :
    (s.setRecord n r).account = s.account := rfl

@[simp] theorem State.setRecord_port (n : Slot) (r : Record) (s : State) :
    (s.setRecord n r).port = s.port := rfl

@[simp] theorem State.setRecord_engine (n : Slot) (r : Record) (s : State) :
    (s.setRecord n r).engine = s.engine := rfl

@[simp] theorem State.setRecord_saw (n : Slot) (r : Record) (s : State) :
    (s.setRecord n r).saw = s.saw := rfl

@[simp] theorem State.setRecord_prot (n : Slot) (r : Record) (s : State) :
    (s.setRecord n r).prot = s.prot := rfl

@[simp] theorem State.setRecord_attn (n : Slot) (r : Record) (s : State) :
    (s.setRecord n r).attn = s.attn := rfl

@[simp] theorem State.setRecord_host (n : Slot) (r : Record) (s : State) :
    (s.setRecord n r).host = s.host := rfl

@[simp] theorem State.setRecord_choices (n : Slot) (r : Record) (s : State) :
    (s.setRecord n r).choices = s.choices := rfl

@[simp] theorem State.setRecord_ranOut (n : Slot) (r : Record) (s : State) :
    (s.setRecord n r).ranOut = s.ranOut := rfl

@[simp] theorem State.setRecord_pending (n : Slot) (r : Record) (s : State) :
    (s.setRecord n r).pending = s.pending := rfl

/-! ### 8.2: the line engine alone changes. -/

@[simp] theorem State.withEngine_resetting (f : Engine → Engine) (s : State) :
    (s.withEngine f).resetting = s.resetting := rfl

@[simp] theorem State.withEngine_startCause (f : Engine → Engine) (s : State) :
    (s.withEngine f).startCause = s.startCause := rfl

@[simp] theorem State.withEngine_sixty (f : Engine → Engine) (s : State) :
    (s.withEngine f).sixty = s.sixty := rfl

@[simp] theorem State.withEngine_fmu (f : Engine → Engine) (s : State) :
    (s.withEngine f).fmu = s.fmu := rfl

@[simp] theorem State.withEngine_gov (f : Engine → Engine) (s : State) :
    (s.withEngine f).gov = s.gov := rfl

@[simp] theorem State.withEngine_gate (f : Engine → Engine) (s : State) :
    (s.withEngine f).gate = s.gate := rfl

@[simp] theorem State.withEngine_water (f : Engine → Engine) (s : State) :
    (s.withEngine f).water = s.water := rfl

@[simp] theorem State.withEngine_table (f : Engine → Engine) (s : State) :
    (s.withEngine f).table = s.table := rfl

@[simp] theorem State.withEngine_account (f : Engine → Engine) (s : State) :
    (s.withEngine f).account = s.account := rfl

@[simp] theorem State.withEngine_port (f : Engine → Engine) (s : State) :
    (s.withEngine f).port = s.port := rfl

@[simp] theorem State.withEngine_engine (f : Engine → Engine) (s : State) :
    (s.withEngine f).engine = f s.engine := rfl

@[simp] theorem State.withEngine_saw (f : Engine → Engine) (s : State) :
    (s.withEngine f).saw = s.saw := rfl

@[simp] theorem State.withEngine_prot (f : Engine → Engine) (s : State) :
    (s.withEngine f).prot = s.prot := rfl

@[simp] theorem State.withEngine_attn (f : Engine → Engine) (s : State) :
    (s.withEngine f).attn = s.attn := rfl

@[simp] theorem State.withEngine_host (f : Engine → Engine) (s : State) :
    (s.withEngine f).host = s.host := rfl

@[simp] theorem State.withEngine_choices (f : Engine → Engine) (s : State) :
    (s.withEngine f).choices = s.choices := rfl

@[simp] theorem State.withEngine_ranOut (f : Engine → Engine) (s : State) :
    (s.withEngine f).ranOut = s.ranOut := rfl

@[simp] theorem State.withEngine_pending (f : Engine → Engine) (s : State) :
    (s.withEngine f).pending = s.pending := rfl

/-! ### R20: a feed-forward post. -/

@[simp] theorem State.postFeed_resetting (x : Int) (s : State) :
    (State.postFeed x s).resetting = s.resetting := rfl

@[simp] theorem State.postFeed_startCause (x : Int) (s : State) :
    (State.postFeed x s).startCause = s.startCause := rfl

@[simp] theorem State.postFeed_sixty (x : Int) (s : State) :
    (State.postFeed x s).sixty = s.sixty := rfl

@[simp] theorem State.postFeed_fmu (x : Int) (s : State) :
    (State.postFeed x s).fmu = s.fmu := rfl

@[simp] theorem State.postFeed_gov (x : Int) (s : State) :
    (State.postFeed x s).gov = s.gov.post x := rfl

@[simp] theorem State.postFeed_gate (x : Int) (s : State) :
    (State.postFeed x s).gate = s.gate := rfl

@[simp] theorem State.postFeed_water (x : Int) (s : State) :
    (State.postFeed x s).water = s.water := rfl

@[simp] theorem State.postFeed_table (x : Int) (s : State) :
    (State.postFeed x s).table = s.table := rfl

@[simp] theorem State.postFeed_account (x : Int) (s : State) :
    (State.postFeed x s).account = s.account := rfl

@[simp] theorem State.postFeed_port (x : Int) (s : State) :
    (State.postFeed x s).port = s.port := rfl

@[simp] theorem State.postFeed_engine (x : Int) (s : State) :
    (State.postFeed x s).engine = s.engine := rfl

@[simp] theorem State.postFeed_saw (x : Int) (s : State) :
    (State.postFeed x s).saw = s.saw := rfl

@[simp] theorem State.postFeed_prot (x : Int) (s : State) :
    (State.postFeed x s).prot = s.prot := rfl

@[simp] theorem State.postFeed_attn (x : Int) (s : State) :
    (State.postFeed x s).attn = s.attn := rfl

@[simp] theorem State.postFeed_host (x : Int) (s : State) :
    (State.postFeed x s).host = s.host := rfl

@[simp] theorem State.postFeed_choices (x : Int) (s : State) :
    (State.postFeed x s).choices = s.choices := rfl

@[simp] theorem State.postFeed_ranOut (x : Int) (s : State) :
    (State.postFeed x s).ranOut = s.ranOut := rfl

@[simp] theorem State.postFeed_pending (x : Int) (s : State) :
    (State.postFeed x s).pending = s.pending := rfl

end Sys2Proof.Machine
end

