-- ==== Sys2Proof/Laws/Ops.lean ====
section
/-!
SUPPORT. For each shared operation one lemma that says once what it does, for the provers to cite instead of unfolding it.
-/

namespace Sys2Proof.Machine

/-! ### Acting and answering (R181, R184) -/

theorem live_of_awake (f : State → State) (s : State) (h : s.resetting = none) : live f s = .next (f s) := by
  simp [live, h]

theorem live_in_reset (f : State → State) (s : State) (k : ResetKind) (h : s.resetting = some k) :
    live f s = .next s := by simp [live, h]

theorem command_of_accepts (code : Byte) (bound : Nat) (f : State → State × Reply) (s : State)
    (h : s.resetting = none) (h2 : s.host.refuses = false) :
    command code bound f s = .next (State.answer code bound (f s).2 (f s).1) := by
  simp [command, live, h, h2]

theorem command_refused (code : Byte) (bound : Nat) (f : State → State × Reply) (s : State)
    (h : s.resetting = none) (h2 : s.host.refuses = true) :
    command code bound f s = .next s.closeTransaction := by
  simp [command, live, h, h2]

theorem command_in_reset (code : Byte) (bound : Nat) (f : State → State × Reply) (s : State) (k : ResetKind)
    (h : s.resetting = some k) : command code bound f s = .next s := by
  simp [command, live, h]

/-! ### What runs out (log 2) -/

theorem expiry_of_fresh (row : Instr) (f : State → State) (s : State) (h : s.resetting = none) (h2 : s.stale row = false) :
    expiry row f s = .next (f s) := by simp [expiry, live, h, h2]

theorem expiry_of_stale (row : Instr) (f : State → State) (s : State) (h : s.stale row = true) :
    expiry row f s = .next s := by
  unfold expiry live
  split <;> simp [h]

theorem expiry_in_reset (row : Instr) (f : State → State) (s : State) (k : ResetKind) (h : s.resetting = some k) :
    expiry row f s = .next s := live_in_reset _ s k h

/-- Before the first microsecond is counted no row is stale. -/
theorem stale_of_none (row : Instr) (s : State) (h : s.ranOut = []) : s.stale row = false := by simp [State.stale, h]

/-- A row is stale exactly where its timer ran out in the microsecond last counted and no longer stands at its end. -/
theorem stale_iff (row : Instr) (s : State) : s.stale row = true ↔ row ∈ s.ranOut ∧ s.atEnd row = false := by
  simp [State.stale]

/-! ### Records -/

theorem record_setRecord_self (n : Slot) (r : Record) (s : State) : (s.setRecord n r).record n = r := by
  simp [State.record]

theorem record_setRecord_ne (n m : Slot) (r : Record) (s : State) (h : n ≠ m) :
    (s.setRecord n r).record m = s.record m := by
  have : n.val ≠ m.val := fun e => h (Fin.ext e)
  simp [State.record, this]

theorem station_setRecord_self (n : Slot) (r : Record) (s : State) : (s.setRecord n r).station n = r.station := by
  simp [State.station, record_setRecord_self]

theorem station_setRecord_ne (n m : Slot) (r : Record) (s : State) (h : n ≠ m) :
    (s.setRecord n r).station m = s.station m := by
  simp [State.station, record_setRecord_ne, h]

theorem onLineService_iff (s : State) (n : Slot) (st : Station) (sv : Service) :
    s.onLineService n = some (st, sv) ↔ s.station n = some st ∧ st.service = some sv ∧ st.onLine = true := by
  unfold State.onLineService
  split <;> (try split) <;> (try split) <;> simp_all <;> grind

theorem enrolledService_iff (s : State) (n : Slot) (st : Station) (sv : Service) :
    s.enrolledService n = some (st, sv) ↔ s.station n = some st ∧ st.service = some sv ∧ st.life = .enrolled := by
  have on : st.life = .enrolled → st.onLine = true := fun h => by simp [Station.onLine, h]
  have key := onLineService_iff s n
  have here := key st sv
  unfold State.enrolledService
  split <;> (try split) <;> grind

theorem setStation_eq (n : Slot) (st : Station) (s : State) :
    s.setStation n st = { s with table := s.table.set n ⟨(s.record n).changed, some st⟩ } := rfl

/-- R94: markChanged sets the flag, and raises STATION only where it was clear. -/
theorem markChanged_of_set (n : Slot) (s : State) (h : (s.record n).changed = true) : s.markChanged n = s := by
  simp [State.markChanged, h]

theorem markChanged_of_clear (n : Slot) (s : State) (h : (s.record n).changed = false) :
    s.markChanged n = (s.setRecord n ⟨true, (s.record n).station⟩).raise .station := by
  simp [State.markChanged, h]

/-! ### Operands (R69, R186, R187) -/

theorem slotOf_spec (b : Byte) (n : Slot) : slotOf b = some n ↔ b.toNat = n.val := by
  unfold slotOf
  split
  · constructor
    · intro h; simp at h; simp [← h]
    · intro h; exact congrArg some (Fin.ext h)
  · have := n.isLt
    constructor
    · simp
    · intro h; omega

theorem slotOf_none (b : Byte) : slotOf b = none ↔ 63 < b.toNat := by
  unfold slotOf
  split
  · simp; omega
  · simp; omega

theorem bankOf_spec (b : Byte) (k : BankNo) : bankOf b = some k ↔ b.toNat = k.val := by
  unfold bankOf
  split
  · constructor
    · intro h; simp at h; simp [← h]
    · intro h; exact congrArg some (Fin.ext h)
  · have := k.isLt
    constructor
    · simp
    · intro h; omega

/-! ### Clamps and permutations -/

theorem clampInt_bounds (lo hi x : Int) (h : lo ≤ hi) : lo ≤ clampInt lo hi x ∧ clampInt lo hi x ≤ hi := by
  unfold clampInt; omega

theorem clampNat_bounds (lo hi x : Nat) (h : lo ≤ hi) : lo ≤ clampNat lo hi x ∧ clampNat lo hi x ≤ hi := by
  unfold clampNat; omega

/-- A permutation by number holds the elements of the list, each as often. -/
theorem permuteAux_perm {α : Type} (k n : Nat) (l : List α) (h : l.length = k) : (permuteAux k n l).Perm l := by
  induction k generalizing n l with
  | zero => simp [List.length_eq_zero_iff.mp h, permuteAux]
  | succ k ih =>
    have hpos : 0 < l.length := by omega
    have hlt : n % l.length < l.length := Nat.mod_lt _ hpos
    simp only [permuteAux, List.getElem?_eq_getElem hlt]
    refine (List.Perm.cons _ (ih _ _ ?_)).trans (List.getElem_cons_eraseIdx_perm hlt)
    rw [List.length_eraseIdx_of_lt hlt]; omega

theorem permute_perm {α : Type} (n : Nat) (l : List α) : (permute n l).Perm l := permuteAux_perm _ _ _ rfl

/-! ### The turn handed to the line port (R122, R124) -/

theorem hand_eq (roll : Bool) (m : Message) (s : State) :
    s.hand roll m =
      { s with
        port := ⟨.transmitting, some ⟨m, m.slot?.bind s.kindAt, false⟩, [], false, some (frameTime m.frame.length), none,
          none⟩
        engine := { s.engine with lastRoll := roll } } := rfl

/-! ### The push hold set (R144) -/

theorem mem_pruneHold (before owner s : State) (n : Slot) :
    n ∈ (State.pruneHold before owner s).engine.hold ↔
      n ∈ s.engine.hold ∧ State.stillHeld before owner s n = true := by
  simp [State.pruneHold, State.withEngine]

/-! ### Steps -/

theorem step_idle (s : State) (h : s.pending = []) : step s = .next s.tick := by simp [step, h]

/-- R180: a byte shifted in most significant bit first is that byte, whatever bits follow. -/
theorem shiftedIn_msbFirst (b : Byte) (rest : List Bool) : shiftedIn (msbFirst b ++ rest) = b :: shiftedIn rest := by
  have whole : ∀ c : Byte, BitVec.ofBoolListBE (msbFirst c) = c.cast (by rfl) := by decide
  have first : shiftedIn (msbFirst b ++ rest) = BitVec.ofBoolListBE (msbFirst b) :: shiftedIn rest := rfl
  rw [first, whole]
  rfl

end Sys2Proof.Machine
end

