-- ==== Sys2Proof/Laws/PerInstr.lean ====
section
/-!
SUPPORT. A statement made per command: the payload of a well-formed host command fits in the 40 bytes of a command frame (11.6.2),
so that its length byte is its length.
-/

namespace Sys2Proof.Laws.PayloadFits

/-- 11.6.2, R187: at most 40 payload bytes. -/
def Statement (i : Instr) : Prop :=
  i.wellFormed = true → ∀ b, commandBody i = some b → b.2.length ≤ commandPayloadBound

/-- A row that the host does not send has no payload. -/
theorem of_none {i : Instr} (h : commandBody i = none) : Statement i := by
  intro _ b hb
  rw [h] at hb
  cases hb

theorem of_some {i : Instr} {c : Byte} {p : List Byte} (h : commandBody i = some (c, p)) (hp : p.length ≤ 40) :
    Statement i := by
  intro _ b hb
  rw [h] at hb
  cases hb
  exact hp

theorem length_bands (l : List (BitVec 40)) : (l.flatMap splitBand).length = 5 * l.length := by
  induction l with
  | nil => rfl
  | cons w l ih => simp only [List.flatMap_cons, List.length_append, List.length_cons, ih]; simp [splitBand]; omega

theorem length_halves (l : List Half) : (l.flatMap splitHalf).length = 2 * l.length := by
  induction l with
  | nil => rfl
  | cons w l ih => simp only [List.flatMap_cons, List.length_append, List.length_cons, ih]; simp [splitHalf]; omega

theorem risingCrossing : ∀ x, Statement (.risingCrossing x) := fun _ => of_none rfl

theorem silenceTimerExpiry : Statement (.silenceTimerExpiry) := of_none rfl

theorem bankFailedOpen : ∀ x, Statement (.bankFailedOpen x) := fun _ => of_none rfl

theorem bankFailedStuck : ∀ x, Statement (.bankFailedStuck x) := fun _ => of_none rfl

theorem bankDisable : ∀ x, Statement (.bankDisable x) := fun _ => of_some rfl (Nat.le_of_ble_eq_true rfl)

theorem bankEnable : ∀ x, Statement (.bankEnable x) := fun _ => of_some rfl (Nat.le_of_ble_eq_true rfl)

theorem bankReturn : ∀ x, Statement (.bankReturn x) := fun _ => of_some rfl (Nat.le_of_ble_eq_true rfl)

theorem bankRatings : ∀ x, Statement (.bankRatings x) := fun r => of_some rfl (by rw [length_halves]; simp)

theorem bankCheck : ∀ x, Statement (.bankCheck x) := fun _ => of_some rfl (Nat.le_of_ble_eq_true rfl)

theorem checkWindowsExhausted : Statement (.checkWindowsExhausted) := of_none rfl

theorem gainSet : ∀ x y, Statement (.gainSet x y) := fun _ _ => of_some rfl (Nat.le_of_ble_eq_true rfl)

theorem governorRead : Statement (.governorRead) := of_some rfl (by decide)

theorem gatePulse : Statement (.gatePulse) := of_none rfl

theorem endSwitchActivation : ∀ x y, Statement (.endSwitchActivation x y) := fun _ _ => of_none rfl

theorem pauseTimerExpiry : Statement (.pauseTimerExpiry) := of_none rfl

theorem jamTimerExpiry : Statement (.jamTimerExpiry) := of_none rfl

theorem gateRetry : Statement (.gateRetry) := of_some rfl (by decide)

theorem trimDecision : Statement (.trimDecision) := of_none rfl

theorem gateSet : ∀ x, Statement (.gateSet x) := fun _ => of_some rfl (Nat.le_of_ble_eq_true rfl)

theorem gateCalibrate : ∀ x, Statement (.gateCalibrate x) := fun _ => of_some rfl (Nat.le_of_ble_eq_true rfl)

theorem gateTrimSet : ∀ x y, Statement (.gateTrimSet x y) := fun _ _ => of_some rfl (Nat.le_of_ble_eq_true rfl)

theorem gateRead : Statement (.gateRead) := of_some rfl (by decide)

theorem planLoad : ∀ x, Statement (.planLoad x) := by
  intro bands hw b hb
  cases hb
  have := of_decide_eq_true hw
  show (bands.flatMap splitBand).length ≤ 40
  rw [length_bands]
  omega

theorem holdTimerExpiry : Statement (.holdTimerExpiry) := of_none rfl

theorem planRead : Statement (.planRead) := of_some rfl (by decide)

theorem provision : ∀ x y z u v w, Statement (.provision x y z u v w) := fun _ _ _ _ _ _ => of_some rfl (Nat.le_of_ble_eq_true rfl)

theorem edit : ∀ x y z, Statement (.edit x y z) := fun _ _ _ => of_some rfl (Nat.le_of_ble_eq_true rfl)

theorem closeSlot : ∀ x, Statement (.closeSlot x) := fun _ => of_some rfl (Nat.le_of_ble_eq_true rfl)

theorem openSlot : ∀ x, Statement (.openSlot x) := fun _ => of_some rfl (Nat.le_of_ble_eq_true rfl)

theorem releaseSlot : ∀ x, Statement (.releaseSlot x) := fun _ => of_some rfl (Nat.le_of_ble_eq_true rfl)

theorem retireSlot : ∀ x, Statement (.retireSlot x) := fun _ => of_some rfl (Nat.le_of_ble_eq_true rfl)

theorem recordLinkSilent : ∀ x, Statement (.recordLinkSilent x) := fun _ => of_none rfl

theorem silenceTimeLimit : ∀ x, Statement (.silenceTimeLimit x) := fun _ => of_none rfl

theorem recloseTimerExpiry : ∀ x, Statement (.recloseTimerExpiry x) := fun _ => of_none rfl

theorem liveTimeLimit : ∀ x, Statement (.liveTimeLimit x) := fun _ => of_none rfl

theorem nextChanged : Statement (.nextChanged) := of_some rfl (by decide)

theorem readRecord : ∀ x, Statement (.readRecord x) := fun _ => of_some rfl (Nat.le_of_ble_eq_true rfl)

theorem applyPlans : ∀ x, Statement (.applyPlans x) := fun _ => of_some rfl (Nat.le_of_ble_eq_true rfl)

theorem applyComplete : Statement (.applyComplete) := of_none rfl

theorem restoreTick : Statement (.restoreTick) := of_none rfl

theorem reserveSet : ∀ x, Statement (.reserveSet x) := fun _ => of_some rfl (Nat.le_of_ble_eq_true rfl)

theorem accountRead : Statement (.accountRead) := of_some rfl (by decide)

theorem transmissionEnd : Statement (.transmissionEnd) := of_none rfl

theorem replyWindowTimeout : Statement (.replyWindowTimeout) := of_none rfl

theorem replyEnd : Statement (.replyEnd) := of_none rfl

theorem replyLengthLimit : Statement (.replyLengthLimit) := of_none rfl

theorem turnEnd : Statement (.turnEnd) := of_none rfl

theorem lineStart : Statement (.lineStart) := of_some rfl (by decide)

theorem lineHold : Statement (.lineHold) := of_some rfl (by decide)

theorem lineResume : Statement (.lineResume) := of_some rfl (by decide)

theorem lineStop : Statement (.lineStop) := of_some rfl (by decide)

theorem lineStopCompletion : Statement (.lineStopCompletion) := of_none rfl

theorem turnChoice : Statement (.turnChoice) := of_none rfl

theorem assignAbandoned : ∀ x, Statement (.assignAbandoned x) := fun _ => of_none rfl

theorem enrolStart : Statement (.enrolStart) := of_some rfl (by decide)

theorem enrolStop : Statement (.enrolStop) := of_some rfl (by decide)

theorem automaticEnrollment : Statement (.automaticEnrollment) := of_none rfl

theorem rejoinIntervalExpiry : Statement (.rejoinIntervalExpiry) := of_none rfl

theorem straysRead : Statement (.straysRead) := of_some rfl (by decide)

theorem strayDrop : ∀ x, Statement (.strayDrop x) := fun _ => of_some rfl (Nat.le_of_ble_eq_true rfl)

theorem lineRead : Statement (.lineRead) := of_some rfl (by decide)

theorem sawEngChange : ∀ x, Statement (.sawEngChange x) := fun _ => of_none rfl

theorem debounceTimerExpiry : Statement (.debounceTimerExpiry) := of_none rfl

theorem sawRequest : ∀ x, Statement (.sawRequest x) := fun _ => of_some rfl (Nat.le_of_ble_eq_true rfl)

theorem waitingTimerExpiry : Statement (.waitingTimerExpiry) := of_none rfl

theorem preparingTimerExpiry : Statement (.preparingTimerExpiry) := of_none rfl

theorem idleTimerExpiry : Statement (.idleTimerExpiry) := of_none rfl

theorem stuckTimerExpiry : Statement (.stuckTimerExpiry) := of_none rfl

theorem sawStop : Statement (.sawStop) := of_some rfl (by decide)

theorem sawSet : ∀ x y, Statement (.sawSet x y) := fun _ _ => of_some rfl (Nat.le_of_ble_eq_true rfl)

theorem sawRead : Statement (.sawRead) := of_some rfl (by decide)

theorem tripClear : Statement (.tripClear) := of_some rfl (by decide)

theorem shedStep : Statement (.shedStep) := of_none rfl

theorem shedIntervalExpiry : Statement (.shedIntervalExpiry) := of_none rfl

theorem settledTimerExpiry : Statement (.settledTimerExpiry) := of_none rfl

theorem protSet : ∀ x y z u, Statement (.protSet x y z u) := fun _ _ _ _ => of_some rfl (Nat.le_of_ble_eq_true rfl)

theorem protLock : Statement (.protLock) := of_some rfl (by decide)

theorem shedMode : ∀ x, Statement (.shedMode x) := fun _ => of_some rfl (Nat.le_of_ble_eq_true rfl)

theorem protRead : Statement (.protRead) := of_some rfl (by decide)

theorem transactionStart : Statement (.transactionStart) := of_none rfl

theorem noOp : Statement (.noOp) := of_some rfl (by decide)

theorem commandFrameError : ∀ x, Statement (.commandFrameError x) := fun _ => of_none rfl

theorem notReadyRefusal : Statement (.notReadyRefusal) := of_none rfl

theorem responseReady : Statement (.responseReady) := of_none rfl

theorem attnRead : Statement (.attnRead) := of_some rfl (by decide)

theorem attnClear : ∀ x, Statement (.attnClear x) := fun _ => of_some rfl (Nat.le_of_ble_eq_true rfl)

theorem ident : Statement (.ident) := of_some rfl (by decide)

theorem status : Statement (.status) := of_some rfl (by decide)

theorem powerOnReset : Statement (.powerOnReset) := of_none rfl

theorem pinReset : Statement (.pinReset) := of_none rfl

theorem supplyReset : Statement (.supplyReset) := of_some rfl (by decide)

theorem replyStartBit : ∀ x y, Statement (.replyStartBit x y) := fun _ _ => of_none rfl

theorem resetEnd : ∀ x y z u, Statement (.resetEnd x y z u) := fun _ _ _ _ => of_none rfl

end Sys2Proof.Laws.PayloadFits
end

