-- ==== Sys2Proof/Tests/Slice0.lean ====
section
/-!
SUPPORT. Tests of the model: the checks of WellFormed, frames written out from the spec, the chapters' worked sequences
as single steps, and for each statement of Certificates/Slice0/Obligations.lean that has hypotheses, a state and
operands that meet them (`witness_` and the statement's name). Expected values come from the spec's worked sequences, or
from its rules by hand.
-/

namespace Sys2Proof.Machine.Slice0

set_option Elab.async false

/-! ### Small states -/

/-- The state an outcome goes on with, and the state before where it does not. -/
def following (s : State) : Host.Outcome State Fault Refusal → State
  | .next t => t
  | .fault _ => s
  | .refused _ => s

def after (i : Instr) (s : State) : State := following s (exec i s)

def base : State := State.reset

/-- A Service record of class 2, limit 300, acknowledged closed. -/
def service (c : Condition) : Service :=
  { connectOnEnrol := false, limit := 300, cls := 2, staged := none, ack := some ⟨true, 300, 2⟩, demand := some 200,
    condition := c, tripCount := false, live := 0, pushDeferred := false }

def station (life : Life) (sv : Option Service) : Station :=
  { serial := 0x01020304, life := life, missed := 0, silence := none, mute := .idle, service := sv }

def connected : Station := station .enrolled (some (service .connected))

/-- The state after reset with one station. -/
def one (n : Slot) (st : Station) : State := base.setStation n st

theorem base_station : ∀ n, base.station n = none := by decide

theorem one_self (n : Slot) (st : Station) : (one n st).station n = some st := station_setRecord_self _ _ _

theorem one_only (n m : Slot) (st su : Station) (h : (one n st).station m = some su) : m = n ∧ su = st := by
  by_cases e : n = m
  · subst e; rw [one_self] at h; exact ⟨rfl, (Option.some.inj h).symm⟩
  · rw [one, State.setStation, station_setRecord_ne _ _ _ _ e, base_station] at h; cases h

/-- The four bands of 4.9.1. -/
def pondBands : List Band := [⟨0, 350, 900⟩, ⟨600, 550, 1800⟩, ⟨900, 800, 2800⟩, ⟨1200, 1000, 3600⟩]

/-- The plan of 4.9.1 with a band in force and a live level. -/
def pond (inForce level : Nat) : Water := ⟨some ⟨pondBands, inForce⟩, .live, some level, none⟩

/-- A state with a reply-bearing turn in a phase. -/
def turning (phase : Phase) (m : Message) (e : Option Kind) (reply : List Byte) (s : State) : State :=
  { s with port := ⟨phase, some ⟨m, e, false⟩, reply, false, none, none, none⟩ }

def tripped (s : State) : State := { s with prot := { s.prot with trip := true } }

def gating (g : Gate) : State := { base with gate := g }

/-! ### Well-formed commands -/

/-- The bits of bytes on MOSI. -/
def mosiOf (bytes : List Byte) : List Bool := bytes.flatMap msbFirst

theorem test_wellFormed_planLoad_nine_bands_refused :
    (Instr.planLoad (List.replicate 9 0)).wellFormed = false := by decide

theorem test_wellFormed_planLoad_eight_bands : (Instr.planLoad (List.replicate 8 0)).wellFormed = true := by decide

theorem test_wellFormed_good_frame_is_no_frame_error :
    (Instr.commandFrameError (mosiOf [0x34, 0x01, 0x05, 0xC6])).wellFormed = false := by decide +kernel

theorem test_wellFormed_bad_sum_is_a_frame_error :
    (Instr.commandFrameError (mosiOf [0x34, 0x01, 0x05, 0xC7])).wellFormed = true := by decide +kernel

/-! ### Frames (R181, R187, R188) -/

/-- R180: 34h and 01h, the most significant bit first, and four bits that are discarded. -/
theorem test_shiftedIn_most_significant_first :
    shiftedIn [false, false, true, true, false, true, false, false, false, false, false, false, false, false, false, true,
      true, true, true, true] = [0x34, 0x01] := by decide

/-- R180: the status byte 81h comes first on MISO, its bit 7 first, and 0 after the last byte. -/
theorem test_misoBit_status_byte_first :
    (List.range 10).map (Transaction.misoBit ⟨[0x81], false⟩) =
      [true, false, false, false, false, false, false, true, false, false] := by decide

/-- R187: band 2 of 4.9.1 packed by hand: threshold 600 in bits 39 to 28, ceiling 550 in 27 to 18, capacity 1,800 in 17
to 5. -/
theorem test_planLoad_band_packing :
    decodeFrame [0x29, 0x05, 0x25, 0x88, 0x98, 0xE1, 0x00, 0xAC] = .command (.planLoad [0x258898E100]) ∧
      bandOf 0x258898E100 = ⟨600, 550, 1800⟩ := by decide +kernel

theorem test_planLoad_length_not_five_refused :
    decodeFrame [0x29, 0x04, 0x00, 0x00, 0x00, 0x00, 0xD3] = .rejected .badLength := by decide +kernel

theorem test_table_word_spells_nothing (n w : Nat) : decodeTableWord n w = none := rfl

/-- R121: the catalogue check of the CRC with this generator and start value. -/
theorem test_crc_check_value :
    crc [0x31, 0x32, 0x33, 0x34, 0x35, 0x36, 0x37, 0x38, 0x39] = 0x29B1 := by decide +kernel

/-! ### Frequency measurement (1.8) -/

def measuring (timebase reference : BitVec 24) (window : List Nat) : State :=
  { base with fmu := { base.fmu with
      timebase := timebase, reference := some reference, window := window, state := .tracking, lastF := some 49962 } }

/-- The reply a command is answered with. -/
def answerOf (i : Instr) (s : State) : Option Reply := (after i s).host.forming.map Forming.reply

/-- 1.8.1, first crossing. -/
theorem test_risingCrossing_across_the_wrap :
    (after (.risingCrossing 0) (measuring 7794 16765000 [])).fmu.window = [20010] := by decide +kernel

/-- 1.8.1, third row of the first table. -/
theorem test_risingCrossing_glitch_keeps_the_reference :
    (after (.risingCrossing 0) (measuring 9000 7794 [20010])).fmu.reference = some 7794 := by decide +kernel

/-- 1.8.1, 1.8.2, 1.8.4: the frequencies of four worked windows. -/
theorem test_window_frequencies :
    completionOf 80060 .tracking = ⟨49962, .inRange, false⟩ ∧ completionOf 80000 .acquiring = ⟨50000, .inRange, true⟩ ∧
      completionOf 47992 .tracking = ⟨70000, .above, false⟩ ∧ completionOf 119976 .tracking = ⟨40000, .below, false⟩ ∧
      completionOf 133332 .tracking = ⟨40000, .below, false⟩ := by decide +kernel

/-- 1.8.3, last row. -/
theorem test_silenceTimerExpiry_raises_signal :
    (after .silenceTimerExpiry (measuring 0 0 [30000, 33000])).fmu.state = .lost ∧
      (after .silenceTimerExpiry (measuring 0 0 [30000, 33000])).attn = 0x0010 := by decide +kernel

/-- R10: the crossing is taken first, and the timeout of the same microsecond does not happen. -/
theorem test_silenceTimerExpiry_after_the_crossing :
    let s := { base with fmu := { base.fmu with silence := some 0 }, ranOut := [.silenceTimerExpiry] }
    (after .silenceTimerExpiry (after (.risingCrossing 0) s)).fmu.state = .acquiring ∧
      (after .silenceTimerExpiry s).fmu.state = .lost := by decide +kernel

/-! ### Ballast governor (2.12) -/

def onBanks (on : Vector Bool 8) (g : Governor) : Governor :=
  { g with banks := Vector.ofFn (fun k : BankNo => { g.banks[k] with on := on[k] }) }

/-- Bank 7 with its fields changed. -/
def bank7 (f : Bank → Bank) (g : Governor) : Governor := g.setBank 7 (f g.banks[7])

/-- 2.12.1. -/
theorem test_completion_routine :
    let g := { base.gov with bFine := 1200000, carry := 7, s := 18720, ePrev := -10, reseed := false }
    let t := (g.take false 50000 (Vector.replicate 8 false) 0 ⟨49962, .inRange, false⟩).1
    t.bFine = 1197600 ∧ t.b = 1169 ∧ t.carry = 6 ∧ t.s = 18719 ∧ t.ePrev = -38 ∧
      t.outputs = #v[true, false, true, false, true, true, true, false] := by decide +kernel

/-- 2.12.2, completion B. -/
theorem test_completion_bank_fails_open :
    let g := { bank7 (fun b => { b with miss := 1 }) base.gov with
      bFine := 2611200, b := 2550, carry := 3, s := 40800, ePrev := 120, reseed := false }
    let r := g.take false 50000 (Vector.replicate 8 true) 0x7F ⟨50180, .inRange, false⟩
    r.1.bFine = 1300480 ∧ r.1.carry = 3 ∧ r.1.s = 39520 ∧ r.1.banks[7].state = .failed .openCircuit ∧
      r.1.outputs = #v[true, true, true, true, true, true, true, false] ∧ r.2 = [.bank] := by decide +kernel

/-- 2.12.3, completion 2: the bank under check is chosen. -/
theorem test_completion_bank_under_check_is_chosen :
    let g := { (base.gov.setBank 3 { base.gov.banks[3] with state := .checking }) with
      b := 1090, carry := 5, check := some ⟨3, 1, false⟩ }
    g.select.1 = [6, 5, 3, 2, 0] ∧ g.select.2 = 5 ∧ g.bCap = 2470 ∧
      g.command.1.check = some ⟨3, 1, true⟩ := by decide +kernel

/-- 2.12.4. -/
theorem test_completion_feed_forward :
    let g := { base.gov with bFine := 1843200, ff := -1500, ePrev := -5, reseed := false }
    (g.control 49960 50000 false).bFine = 304320 ∧ (g.control 49960 50000 false).b = 297 := by decide +kernel

theorem test_bankDisable_lowers_capacity : (after (.bankDisable 7) base).gov.bCap = 1270 := by decide +kernel

theorem test_bankDisable_range : answerOf (.bankDisable 8) base = some (.plain .range) := by decide +kernel

theorem test_bankCheck_of_a_ready_bank_refused : answerOf (.bankCheck 7) base = some (.plain .state) := by decide +kernel

theorem test_bankRatings_zero_makes_absent :
    (after (.bankRatings #v[0, 20, 40, 80, 160, 320, 640, 2000]) base).gov.banks[0].state = .absent ∧
      (after (.bankRatings #v[0, 20, 40, 80, 160, 320, 640, 2000]) base).gov.bCap = 3260 := by decide +kernel

theorem test_gainSet_clamps : (after (.gainSet 4096 16) base).gov.kp = 4095 := by decide +kernel

/-! ### Guide vane positioner (3.9) -/

/-- 3.9.2, the second pulse of the closing run. -/
theorem test_gatePulse_completes_the_step_left_over :
    let s := gating { base.gate with p := 640, prescaler := 3, target := 600, drive := .closing, jam := some 1 }
    (after .gatePulse s).gate.p = 639 ∧ (after .gatePulse s).gate.prescaler = 0 ∧
      (after .gatePulse s).gate.drive = .closing := by decide +kernel

/-- 3.9.2, the last pulse. -/
theorem test_gatePulse_ends_the_run :
    let s := gating { base.gate with p := 601, prescaler := 3, target := 600, drive := .closing, jam := some 1 }
    (after .gatePulse s).gate.p = 600 ∧ (after .gatePulse s).gate.drive = .pausing := by decide +kernel

/-- 3.9.2, the first pause. -/
theorem test_pauseTimerExpiry_starts_the_next_run :
    (after .pauseTimerExpiry (gating { base.gate with p := 640, target := 600, drive := .pausing, pause := some 1 })).gate.drive
      = .closing := by decide +kernel

/-- 3.9.1, decision 1: Bs = 1,200 below 1,750. -/
theorem test_trimDecision_raises_the_target :
    let s := { gating { base.gate with p := 600, target := 600 } with
      gov := { base.gov with s := 19200 }
      saw := { base.saw with state := .preparing, draw := some 1500 } }
    (after .trimDecision s).gate.target = 605 ∧ (after .trimDecision s).gate.drive = .opening := by decide +kernel

theorem test_gateCalibrate_range : answerOf (.gateCalibrate 1001) base = some (.plain .range) := by decide +kernel

/-! ### Water plan (4.9) -/

/-- 4.9.1: the levels of the table, each from the band before it. -/
theorem test_levels_move_the_band :
    let follow := fun b l => (WaterPlan.follow l ⟨pondBands, b⟩).inForce
    follow 1 585 = 1 ∧ follow 1 615 = 1 ∧ follow 1 640 = 2 ∧ follow 2 605 = 2 ∧ follow 2 590 = 1 ∧ follow 1 1250 = 4 ∧
      follow 1 1210 = 3 := by decide +kernel

/-- 4.9.1, the loss: K is 900 again, LEVEL is raised, and g_t follows the ceiling of 350. -/
theorem test_holdTimerExpiry_brings_band_one :
    let t := after .holdTimerExpiry { base with water := { pond 4 1250 with source := .holding, hold := some 1 } }
    t.water.source = .lost ∧ t.water.capacity = some 900 ∧ t.gate.target = 350 ∧ t.attn = 0x0080 := by decide +kernel

/-- 4.9.2: thresholds 0, 600 and 600 are refused; the other table takes band 3 at 1,210. -/
theorem test_plan_checks_and_choice :
    planInRange [⟨0, 300, 800⟩, ⟨600, 600, 1500⟩, ⟨600, 900, 2400⟩] = false ∧
      planInRange [⟨0, 300, 800⟩, ⟨500, 600, 1500⟩, ⟨1100, 900, 2400⟩] = true ∧
      (pond 3 1210).choose [⟨0, 300, 800⟩, ⟨500, 600, 1500⟩, ⟨1100, 900, 2400⟩] = 3 := by decide +kernel

theorem test_planLoad_of_no_band_is_range : answerOf (.planLoad []) base = some (.plain .range) := by decide +kernel

/-! ### Station table (5.13) -/

/-- 5.13.1, first row. -/
theorem test_provision_fills_the_slot :
    ((after (.provision 11 0 20481377 2 300 1) base).station 11).map Station.serial = some 20481377 ∧
      answerOf (.provision 11 0 20481377 2 300 1) base = some (.plain .done) := by decide +kernel

theorem test_provision_range : answerOf (.provision 64 0 1 0 0 0) base = some (.plain .range) := by decide +kernel

/-- 5.13.1: the TAKE of a closed breaker, the lowered limit acknowledged, and the overcurrent trip. -/
theorem test_take_report_and_trip :
    let s0 := one 11 { connected with
      life := .provisioned, serial := 20481377,
      service := some { service .off with ack := none, demand := none, connectOnEnrol := true } }
    let s1 := s0.takeReply 20481377 11 (.service ⟨true, 500, 2⟩ 180 none)
    let s2 := s1.report 11 (.service ⟨true, 300, 2⟩ 210 none)
    let s3 := s2.report 11 (.service ⟨false, 300, 2⟩ 0 (some .overcurrent))
    (s1.record 11).share = 500 ∧ (s1.record 11).changed = true ∧ (s2.record 11).share = 300 ∧ (s3.record 11).share = 0 ∧
      ((s3.station 11).bind Station.service).map Service.condition = some (.tripped (some 60000000)) := by decide +kernel

/-- 5.13.2: after RETIRE the acknowledged share still holds the share. -/
theorem test_retireSlot_keeps_the_share :
    let s := one 30 { connected with service := some { service .connected with limit := 400, ack := some ⟨true, 400, 1⟩ } }
    ((after (.retireSlot 30) s).record 30).share = 400 ∧
      ((after (.retireSlot 30) s).station 30).map Station.life = some .retiring := by decide +kernel

/-- 5.13.2: the third miss makes the link Silent. -/
theorem test_third_miss_is_silent :
    (((one 30 { connected with missed := 2 }).missedReply 30 false).station 30).map Station.silence
      = some (some 0) := by decide +kernel

theorem test_closeSlot_without_a_plan :
    answerOf (.closeSlot 5) (one 5 (station .enrolled (some (service .off)))) = some (.plain .noplan) := by decide +kernel

/-! ### Supply account (6.10) -/

def staged (limit cls : Nat) (plan : Nat × Nat) (closed : Bool) : Service :=
  { service (if closed then .connected else .off) with
    limit := limit, cls := cls, ack := some ⟨closed, limit, cls⟩, staged := some ⟨plan.1, plan.2, false⟩ }

/-- The records of 6.10.1, with K = 1,800 and R = 200. -/
def applying : State :=
  let put := fun (n : Slot) (sv : Service) (silence : Option Nat) (s : State) =>
    s.setStation n { station .enrolled (some sv) with serial := BitVec.ofNat 32 n.val, silence := silence }
  ({ base with water := pond 2 640 }
    |> put 3 (staged 300 1 (500, 1) true) none
    |> put 4 (staged 400 2 (300, 2) true) none
    |> put 7 (staged 250 3 (800, 3) true) none
    |> put 9 (staged 200 2 (600, 1) false) (some 0))

/-- 6.10.1: the APPLY of all, answered with changed 3 and deferred 1; slot 9 is marked Unconfirmed at once. -/
theorem test_applyPlans_all :
    let t := after (.applyPlans 0x80) applying
    answerOf (.applyPlans 0x80) applying = some (.fixed .started [3, 1]) ∧ t.committed = 1150 ∧
      t.account.apply.map Apply.marks = some [(3, .pending), (4, .pending), (9, .unconfirmed)] := by decide +kernel

/-- 6.10.2: the six records, with K - R = 700 after the fall. -/
def curtailing : State :=
  let put := fun (n : Slot) (cls limit : Nat) (s : State) =>
    s.setStation n { station .enrolled
      (some { service .connected with limit := limit, cls := cls, ack := some ⟨true, limit, cls⟩ }) with
      serial := BitVec.ofNat 32 n.val }
  ({ base with water := { pond 1 0 with source := .lost } }
    |> put 0 0 150 |> put 1 1 200 |> put 2 2 300 |> put 5 2 250 |> put 6 3 400 |> put 8 3 350)

/-- 6.10.2: the pass sheds class 3, then class 2, and stops at P = 350; M is still 1,650. -/
theorem test_curtailment_pass :
    curtailing.intended = 1650 ∧ (curtailing.curtailClass 3).intended = 900 ∧ curtailing.curtail.intended = 350 ∧
      curtailing.curtail.committed = 1650 ∧ curtailing.curtail.account.unresolvable = false := by decide +kernel

theorem test_reserveSet_clamps : (after (.reserveSet 2001) base).account.reserve = 2000 := by decide +kernel

/-! ### Field line and line engine (7.10, 8.11) -/

/-- R119: a QUERY to station 5 begins with the character 05h: start, 1, 0, 1, then zeros, stop. -/
theorem test_character_bits :
    (Message.query 4).bits.take 10 = [false, true, false, true, false, false, false, false, false, true] ∧
      characterOf ((characterBits 0x05).extractLsb' 0 9) = 0x05 := by decide +kernel

/-- R119: a last sample at space is a framing error; a first one at mark is no start bit. -/
theorem test_replyStartBit_samples :
    let s := turning .window (.query 5) none [] base
    (after (.replyStartBit 0x00A false) s).port.reply = [0x05] ∧ (after (.replyStartBit 0x00A false) s).port.framing = true ∧
      (after (.replyStartBit 0x1FF true) s).port.phase = .window := by decide +kernel

/-- 7.10.2: the leading bits of the three serials. -/
theorem test_serial_prefixes :
    Prefix.begins ⟨2, 0⟩ 305419896 = true ∧ Prefix.begins ⟨2, 0x40000000⟩ 1500000000 = true ∧
      Prefix.begins ⟨1, 0x80000000⟩ 3000000000 = true ∧ Prefix.begins ⟨2, 0⟩ 1500000000 = false := by decide +kernel

/-- 8.11.2, the collision at prefix 0 over a stack that holds 1: 00, 01, 1. -/
theorem test_roll_collision_pushes_both_children :
    let s := { base with engine := { base.engine with
      enrolment := .active .byHost false, stack := [⟨1, 0x80000000⟩] } }
    (s.rollClass ⟨1, 0⟩ .collision).engine.stack = [⟨2, 0⟩, ⟨2, 0x40000000⟩, ⟨1, 0x80000000⟩] := by decide +kernel

/-- 8.11.1, turn 4: the lowering push at slot 6 goes before the raising one at slot 2. -/
theorem test_turnChoice_lowering_push_first :
    let put := fun (n : Slot) (sv : Service) (deferred : Bool) (s : State) =>
      s.setStation n { station .enrolled (some { sv with pushDeferred := deferred }) with serial := BitVec.ofNat 32 n.val }
    let s := ({ base with engine := { base.engine with state := .running, fresh := false, cursor := 5 } }
      |> put 2 { service .connected with limit := 500, cls := 1, ack := some ⟨true, 300, 1⟩ } false
      |> put 6 { service .off with limit := 400, cls := 3, ack := some ⟨true, 400, 3⟩ } false
      |> put 11 { service .connected with limit := 250, cls := 2, ack := some ⟨false, 250, 2⟩ } true)
    (after .turnChoice s).port.turn.map Turn.message = some (.order 6 ⟨false, 400, 3⟩) := by decide +kernel

/-- R136: the first message after LINE START is LINE CLEAR. -/
theorem test_lineStart_sends_line_clear :
    (after .lineStart base).port.turn.map Turn.message = some .lineClear := by decide +kernel

/-! ### Saw permit unit (9.10) -/

/-- 9.10.1, the request: K - R = 2,600. -/
theorem test_sawRequest_granted :
    let t := after (.sawRequest 1500) { base with water := pond 3 1000 }
    t.saw.state = .preparing ∧ t.saw.reserved = 1500 ∧ t.saw.preparing = some 180000000 := by decide +kernel

/-- 9.10.1, Bs = 1,552: released. -/
theorem test_surplus_releases :
    (({ base.saw with state := .preparing, draw := some 1500 } : Saw).surplusTest 1552).state = .released ∧
      (({ base.saw with state := .preparing, draw := some 1500 } : Saw).surplusTest 1549).state = .preparing := by
  decide +kernel

/-- 9.10.2, the last row. -/
theorem test_debounceTimerExpiry_frees_a_fault :
    let s := { base with saw := { base.saw with
      state := .fault, draw := some 1500, reserved := 1500, engaged := 1500, clutch := true, debounce := some 1 } }
    let t := after .debounceTimerExpiry s
    t.saw.state = .idle ∧ t.saw.reserved = 0 ∧ t.saw.lastEvent = some .clutchFreed ∧ t.gov.ff = 1500 ∧
      t.attn = 0x2000 := by decide +kernel

/-! ### Protection (10.9) -/

/-- 10.9.1, 120 ms: the third under-frequency window takes the step of class 3. -/
def dipping : State :=
  let put := fun (n : Slot) (cls ackCls demand : Nat) (s : State) =>
    s.setStation n { station .enrolled
      (some { service .connected with cls := cls, ack := some ⟨true, 300, ackCls⟩, demand := some demand }) with
      serial := BitVec.ofNat 32 n.val }
  ({ base with
      engine := { base.engine with state := .running, fresh := false }
      prot := { base.prot with uf := 3 } }
    |> put 1 1 1 120 |> put 2 2 2 300 |> put 6 3 3 260 |> put 8 2 3 160)

theorem test_shedStep_of_class_three :
    let t := after .shedStep dipping
    t.prot.lastStep = some (.shed 3 2 420) ∧ t.prot.uf = 0 ∧ t.prot.interval = some 2000000 := by decide +kernel

/-- 10.9.2, the second and third TRIP CLEAR. -/
theorem test_tripClear_at_50800_and_50300 :
    let s := fun f => tripped { base with fmu := { base.fmu with state := .tracking, lastF := some f } }
    answerOf .tripClear (s 50800) = some (.plain .state) ∧ answerOf .tripClear (s 50300) = some (.plain .done) ∧
      (after .tripClear (s 50300)).gov.reseed = true := by decide +kernel

theorem test_protSet_range : answerOf (.protSet 10000 1999 1000 2) base = some (.plain .range) := by decide +kernel

/-! ### Command port (11.7) -/

def lineUp (attn : Half) : State :=
  { base with engine := { base.engine with state := .running, fresh := false }, attn := attn }

/-- 11.7: the status bytes of transactions 1 to 3. -/
theorem test_status_bytes :
    (lineUp 0).statusByte true = 0x05 ∧ (lineUp 0).statusByte false = 0x04 ∧
      (lineUp 0x1000).statusByte true = 0x85 := by decide +kernel

/-- 11.7, transaction 2: status 04h, NOT READY, echo 34h. -/
theorem test_transactionStart_not_ready :
    let s := { lineUp 0 with host := { base.host with forming := some ⟨0x34, .plain .done⟩, timer := some 40 } }
    (after .transactionStart s).host.transaction = some ⟨[0x04, 0x0B, 0x34, 0x00, 0xC1], true⟩ := by decide +kernel

/-- 11.7, transactions 4 and 5: ATTN READ gives 1000h. -/
theorem test_attnRead_payload : Reading.payload (lineUp 0x1000) .attention = [0x10, 0x00] := by decide +kernel

/-- R182, 11.6.2: STATION is bit 12. -/
theorem test_attnClear_station : (after (.attnClear 0x1000) (lineUp 0x3000)).attn = 0x2000 := by decide +kernel

/-- 11.6.4: a reclose timer whose running out has not been taken yet still reads 1 s. -/
theorem test_readRecord_reclose_byte :
    (Condition.tripped (some 0)).recloseByte = 1 ∧ (Condition.tripped (some 60000000)).recloseByte = 60 ∧
      (Condition.tripped none).recloseByte = 0xFE := by decide +kernel

/-- R183. -/
theorem test_ident_payload : identPayload.length = 12 := by decide

theorem test_status_payload_after_reset : base.statusPayload = [0x00, 0x00, 0x00, 0xFF, 0xFF, 0x00] := by decide +kernel

/-! ### Resets and the queue -/

theorem test_resetEnd_with_gate_shut :
    let t := after (.resetEnd true true false false) { base with resetting := some .pin }
    t.gate.p = 0 ∧ t.gate.calibrated = true ∧ t.sixty = true ∧ t.startCause = .pin := by decide +kernel

/-- The host's question: from reset, a command in front of the queue is taken. -/
theorem test_step_takes_the_queue :
    (following base (step { base with pending := [.gainSet 1 2, .noOp] })).pending = [.noOp] ∧
      (following base (step { base with pending := [.gainSet 1 2, .noOp] })).gov.ki = 2 := by decide +kernel

/-! ### States that meet the hypotheses of the statements -/

/-- A state with the table of reset has no station. -/
theorem no_station {s : State} (h : s.table = base.table) (n : Slot) : s.station n = none := by
  have := base_station n
  rw [State.station, State.record] at this ⊢
  rw [h, this]

theorem empty_table {s : State} (h : s.table = base.table) (P : Station → Prop) :
    ∀ n st, s.station n = some st → P st := by
  intro n st e
  rw [no_station h] at e
  cases e

theorem witness_IdleStepCountsOneMicrosecond :
    (base.pending = [] ∧ base.awake) ∧
      ({ base with resetting := some .pin } : State).pending = [] ∧ ¬ ({ base with resetting := some .pin } : State).awake := by
  decide +kernel

theorem witness_RefusedAndIgnoredCommandsChangeNothing :
    let s := { base with host := { base.host with transaction := some ⟨[0x04], true⟩ } }
    s.awake ∧ s.host.refuses = true ∧ (commandBody (.applyPlans 0x80)).isSome = true := by decide +kernel

/-- An overtaken row; the three ties. -/
theorem witness_RefusedAndIgnoredCommandsChangeNothing_ties :
    let ran := fun (i : Instr) (s : State) => { s with ranOut := [i] }
    ((ran .silenceTimerExpiry base).awake ∧ (ran .silenceTimerExpiry base).stale .silenceTimerExpiry = true ∧
      .silenceTimerExpiry ∈ (ran .silenceTimerExpiry base).ranOut) ∧
    (let s := ran .jamTimerExpiry (gating { base.gate with drive := .opening, jam := some 0 })
     s.awake ∧ s.gate.driving = true ∧ .jamTimerExpiry ∈ s.ranOut) ∧
    startSeen 0x00A = true ∧
    (let s := ran .replyWindowTimeout (turning .window (.query 5) none [] base)
     s.awake ∧ s.port.phase = .window ∧ .replyWindowTimeout ∈ s.ranOut) ∧
    (let s := ran .replyEnd (turning .receiving (.query 5) none [] base)
     s.awake ∧ s.port.phase = .receiving ∧ .replyEnd ∈ s.ranOut) := by
  decide +kernel

theorem witness_RefusedAndIgnoredCommandsChangeNothing_in_a_reset :
    ¬ ({ base with resetting := some .powerOn } : State).awake ∧ Instr.noOp ≠ .powerOnReset ∧ Instr.noOp ≠ .pinReset ∧
      ∀ a b c d, Instr.noOp ≠ .resetEnd a b c d := by decide +kernel

/-- A period of 5,999, across the wrap. -/
theorem witness_GlitchCrossingIsDiscarded :
    let s := measuring 0 (0 - 5999) []
    s.awake ∧ s.fmu.state ≠ .lost ∧ s.fmu.reference = some (0 - 5999) ∧ (s.fmu.timebase - (0 - 5999)).toNat < 6000 := by
  decide +kernel

/-- No row of reset is stale: the timers' statements ask no more of these states. -/
theorem witness_stale : ∀ row : Instr, base.stale row = false := fun _ => rfl

/-- Lost; without a reference; periods of 6,000 and 33,333; not Lost, with a row that is not stale. -/
theorem witness_CrossingsAndSilenceBeforeAFullWindow :
    let lost := { base with fmu := { base.fmu with state := .lost, silence := none } }
    let s := measuring 6000 0 [20000, 20000]
    let u := measuring 33333 0 []
    (lost.awake ∧ lost.fmu.state = .lost) ∧
      (base.awake ∧ base.fmu.state ≠ .lost ∧ base.fmu.reference = none ∧ base.stale .silenceTimerExpiry = false) ∧
      (s.awake ∧ s.fmu.state ≠ .lost ∧ s.fmu.reference = some 0 ∧ 6000 ≤ (s.fmu.timebase - 0).toNat ∧
        (s.fmu.timebase - 0).toNat ≤ 33333 ∧ s.fmu.window.length < 3) ∧
      (u.awake ∧ u.fmu.state ≠ .lost ∧ u.fmu.reference = some 0 ∧ 6000 ≤ (u.fmu.timebase - 0).toNat ∧
        (u.fmu.timebase - 0).toNat ≤ 33333 ∧ u.fmu.window.length < 3) := by
  decide +kernel

theorem witness_FourthAndSlowPeriodsEndTheWindow :
    let s := measuring 6000 0 [6000, 6000, 6000]
    let u := measuring 33333 0 [33333, 33333, 33333]
    (s.awake ∧ s.fmu.state ≠ .lost ∧ s.fmu.reference = some 0 ∧ 6000 ≤ (s.fmu.timebase - 0).toNat ∧
      (s.fmu.timebase - 0).toNat ≤ 33333 ∧ s.fmu.window.length = 3) ∧
    (u.awake ∧ u.fmu.state ≠ .lost ∧ u.fmu.reference = some 0 ∧ 6000 ≤ (u.fmu.timebase - 0).toNat ∧
      (u.fmu.timebase - 0).toNat ≤ 33333 ∧ u.fmu.window.length = 3) := by
  decide +kernel

/-- A period of 33,334, outside a trip with a count of 1, and in a trip. -/
theorem witness_FourthAndSlowPeriodsEndTheWindow_slow :
    let s := { measuring 33334 0 [20000] with prot := { base.prot with uf := 1 } }
    let u := tripped (measuring 33334 0 [])
    (s.awake ∧ s.fmu.state ≠ .lost ∧ s.fmu.reference = some 0 ∧ 33333 < (s.fmu.timebase - 0).toNat ∧
      s.prot.trip = false ∧ s.prot.uf < 2) ∧
    (u.awake ∧ u.fmu.state ≠ .lost ∧ u.fmu.reference = some 0 ∧ 33333 < (u.fmu.timebase - 0).toNat ∧
      u.prot.trip = true) := by
  decide +kernel

theorem witness_CompletionFollowsTheControlLaw : base.gov.check = none := by decide

/-- A Ready bank, and none. -/
theorem witness_SelectionFitsTheTarget :
    base.gov.rMin = some 10 ∧
      ({ base.gov with banks := Vector.replicate 8 ⟨0, .absent, 0, 0, false⟩ } : Governor).rMin = none := by
  decide +kernel

def banked (k : BankNo) (b : Bank) : State := { base with gov := base.gov.setBank k b }

theorem witness_BankCommandsMoveTheReadySet :
    (base.accepts ∧ bankOf 0 = some 0 ∧ base.gov.banks[0].state = .ready) ∧
    (base.accepts ∧ bankOf 7 = some 7 ∧ base.gov.banks[7].state = .ready) ∧
    (let s := banked 7 ⟨1280, .disabled, 0, 0, false⟩
     s.accepts ∧ s.gov.banks[7].state = .disabled ∧ s.prot.trip = false ∧ s.gov.check = none) ∧
    (let s := banked 7 ⟨1280, .failed .stuck, 0, 0, false⟩
     s.accepts ∧ s.gov.banks[7].state = .failed .stuck ∧ s.prot.trip = false) ∧
    ((tripped base).accepts ∧ (tripped base).prot.trip = true) := by
  decide +kernel

/-- LOCKED; a rating of 2,001; STATE for a trip and for a check; ratings of 0 and 2,000. -/
theorem witness_BankRatingsReplaceTheTable :
    let good : Vector Half 8 := #v[0, 2000, 40, 80, 160, 320, 640, 1280]
    let bad : Vector Half 8 := #v[0, 2001, 40, 80, 160, 320, 640, 1280]
    let locked := { base with prot := { base.prot with lock := true } }
    let checking := { base with gov := { base.gov with check := some ⟨3, 0, false⟩ } }
    (locked.accepts ∧ locked.prot.lock = true) ∧
    (base.accepts ∧ base.prot.lock = false ∧ ∃ k : BankNo, 2000 < bad[k].toNat) ∧
    ((∀ k : BankNo, good[k].toNat ≤ 2000) ∧ (tripped base).accepts ∧ (tripped base).prot.lock = false ∧
      (tripped base).prot.trip = true) ∧
    (checking.accepts ∧ checking.prot.lock = false ∧ checking.gov.check ≠ none) ∧
    (base.prot.trip = false ∧ base.gov.check = none) := by
  decide +kernel

/-- Within a completion: each state of a bank with its counts at 0 and 1, a Ready set that loses a bank and one that does
not; a chosen bank under check, one found Stuck, and the windows 48 and 49. As steps: the three rows. -/
theorem witness_BankFailuresAndCheckEnd :
    let checked := fun (w : Nat) (chosen : Bool) (stuck : Nat) =>
      { base.gov.setBank 3 ⟨80, .checking, 0, stuck, false⟩ with check := some ⟨3, w, chosen⟩ }
    let off := Vector.replicate 8 false
    let on := Vector.replicate 8 true
    let dark := base.gov.setBank 7 ⟨1280, .ready, 1, 0, true⟩
    (base.gov.banks[7].state = .ready ∧ on[7] = true ∧ base.gov.banks[7].miss = 0 ∧ off[7] = false ∧
      dark.banks[7].miss = 1 ∧ (dark.health on 0).1.banks[7].state ≠ .ready) ∧
    (∀ k : BankNo, base.gov.banks[k].state = .ready ∧ (base.gov.health on 0xFF).1.banks[k].state = .ready) ∧
    ((checked 0 false 1).banks[3].state = .checking ∧ (checked 0 false 1).banks[3].stuck = 1 ∧
      (0x08 : BitVec 8).getLsbD 3 = true ∧ (0 : BitVec 8).getLsbD 3 = false) ∧
    ((checked 0 true 0).check = some ⟨3, 0, true⟩ ∧ (checked 48 false 0).check = some ⟨3, 48, false⟩ ∧
      (checked 49 false 0).check = some ⟨3, 49, false⟩) ∧
    (let t := fun (w b : Nat) => (Governor.take false 50000 off 0 ⟨50000, .inRange, true⟩
        { checked w false 0 with bFine := 1024 * b, b := b }).1
     (t 49 80).banks[3].on = true ∧ (t 48 79).banks[3].on = false ∧ (t 49 79).banks[3].on = false) ∧
    (let s := banked 7 ⟨1280, .ready, 1, 0, true⟩
     s.awake ∧ s.gov.banks[7].state = .ready ∧ s.gov.banks[7].on = true ∧ s.gov.banks[7].miss = 1) ∧
    (let s := banked 0 ⟨10, .ready, 0, 1, false⟩
     s.awake ∧ s.gov.banks[0].state = .ready ∧ s.gov.banks[0].on = false ∧ s.gov.banks[0].stuck = 1) ∧
    (let s := { base with gov := checked 49 false 0 }
     s.awake ∧ s.gov.check = some ⟨3, 49, false⟩) := by
  decide +kernel

def gateOf (p target : Nat) (drive : Drive) : Gate := { base.gate with p := p, target := target, drive := drive }

/-- Each clause at the edge of its stop band. -/
theorem witness_DriveDecisionFollowsTheStopBand :
    (let g := gateOf 597 600 .stopped
     g.drive = .stopped ∧ g.p + 2 < g.target ∧ g.full = false) ∧
    (let g := gateOf 603 600 .stopped
     g.drive = .stopped ∧ g.target + 2 < g.p ∧ g.shut = false) ∧
    (let g := gateOf 602 600 .stopped
     g.drive = .stopped ∧ g.p ≤ g.target + 2 ∧ g.target ≤ g.p + 2) ∧
    (let g := { gateOf 5 2 .stopped with shut := true }
     g.drive = .stopped ∧ g.target + 2 < g.p ∧ g.shut = true ∧ g.target ≤ 2) ∧
    (let g := { gateOf 995 998 .stopped with full := true }
     g.drive = .stopped ∧ g.p + 2 < g.target ∧ g.full = true ∧ 998 ≤ g.target ∧ g.target ≤ 1000) ∧
    (gateOf 0 0 .opening).drive = .opening ∧ (gateOf 0 0 .closing).drive = .closing ∧
    (gateOf 0 0 .pausing).drive = .pausing ∧ (gateOf 0 0 (.jammed .stall)).drive = .jammed .stall := by
  decide +kernel

theorem witness_GatePulsesAndDriveTimers :
    (let s := gating { gateOf 640 700 .opening with prescaler := 2 }
     s.awake ∧ s.gate.drive = .opening ∧ s.gate.prescaler < 3 ∧ s.gate.driving = true) ∧
    (let s := gating { gateOf 999 1000 .opening with prescaler := 3 }
     s.awake ∧ s.gate.drive = .opening ∧ s.gate.prescaler = 3 ∧ s.gate.p < 1000) ∧
    (let s := gating { gateOf 1 0 .closing with prescaler := 3 }
     s.awake ∧ s.gate.drive = .closing ∧ s.gate.prescaler = 3 ∧ 0 < s.gate.p) ∧
    (let s := gating { gateOf 1000 1000 .opening with prescaler := 3 }
     s.awake ∧ s.gate.driving = true ∧ s.gate.prescaler = 3 ∧ s.gate.drive = .opening ∧ s.gate.p = 1000) ∧
    (let s := gating { gateOf 0 0 .closing with prescaler := 3 }
     s.awake ∧ s.gate.driving = true ∧ s.gate.prescaler = 3 ∧ s.gate.drive = .closing ∧ s.gate.p = 0) ∧
    (base.awake ∧ base.gate.driving = false) ∧ (gating (gateOf 640 600 .pausing)).gate.drive = .pausing := by
  decide +kernel

theorem witness_EndSwitchesFixTheCount :
    (base.awake ∧ base.gate.shut = false ∧ base.gate.full = false ∧ base.gate.drive ≠ .closing ∧
      base.gate.drive ≠ .opening) ∧
    (let s := gating (gateOf 3 0 .closing)
     s.awake ∧ s.gate.shut = false ∧ s.gate.full = false ∧ s.gate.drive = .closing) ∧
    (let s := gating (gateOf 997 1000 .opening)
     s.awake ∧ s.gate.shut = false ∧ s.gate.full = false ∧ s.gate.drive = .opening) ∧
    (let s := gating { base.gate with shut := true }
     s.awake ∧ s.gate.shut = true ∧ s.gate.full = false) := by
  decide +kernel

theorem witness_GateCommandsSetTheGate :
    (let s := gating (gateOf 500 500 (.jammed .stall))
     s.accepts ∧ s.gate.isJammed = true ∧ s.gate.shut = false) ∧
    (base.accepts ∧ (1000 : Half).toNat ≤ 1000 ∧ base.prot.trip = false ∧ base.gate.isJammed = false) ∧
    1000 < (1001 : Half).toNat ∧
    ((tripped base).accepts ∧ (tripped base).prot.trip = true) ∧
    (base.gate.driving = false ∧ base.gate.shut = false ∧ base.gate.full = false) := by
  decide +kernel

/-- Bs one below, one above, and at the edges of the band of the float target 300 with deadband 50. -/
theorem witness_TrimMovesTheTarget :
    let at' := fun s' : Nat => { base with gov := { base.gov with s := s' } }
    ((tripped base).awake ∧ (tripped base).prot.trip = true) ∧
    (let s := at' (16 * 351)
     s.awake ∧ s.prot.trip = false ∧ s.gate.isJammed = false ∧ s.gate.float + s.gate.deadband < s.gov.bs ∧
       0 < s.gate.target) ∧
    (let s := at' (16 * 249)
     s.awake ∧ s.gov.bs + s.gate.deadband < s.gate.float ∧ s.gate.target < s.water.ceiling) ∧
    (let s := { at' (16 * 351) with gate := { base.gate with target := 0 } }
     s.awake ∧ s.gate.float + s.gate.deadband < s.gov.bs ∧ s.gate.target = 0) ∧
    (let s := { at' (16 * 249) with gate := { base.gate with target := 1000 } }
     s.awake ∧ s.gov.bs + s.gate.deadband < s.gate.float ∧ s.gate.target = s.water.ceiling) ∧
    (let s := at' (16 * 250)
     s.awake ∧ s.gov.bs ≤ s.gate.float + s.gate.deadband ∧ s.gate.float ≤ s.gov.bs + s.gate.deadband) ∧
    (let s := at' (16 * 350)
     s.awake ∧ s.gov.bs ≤ s.gate.float + s.gate.deadband ∧ s.gate.float ≤ s.gov.bs + s.gate.deadband) := by
  decide +kernel

def holding : State := { base with water := { pond 4 1250 with source := .holding, hold := some 1 } }

/-- No band; one band with a Live, a Holding and no level source; the hold timer. -/
theorem witness_PlanLoadAndHoldTimerChooseTheBand :
    (base.accepts ∧ planInRange (List.map bandOf []) = false) ∧
    (base.accepts ∧ planInRange (List.map bandOf [0x000015E384]) = true ∧ base.water.source ≠ .live ∧
      base.water.source ≠ .holding) ∧
    (let s := { base with water := pond 1 0 }
     s.accepts ∧ s.water.source = .live ∧ s.water.level = some 0) ∧
    (holding.accepts ∧ holding.awake ∧ holding.water.source = .holding ∧ holding.stale .holdTimerExpiry = false ∧ holding.water.level = some 1250) := by
  decide +kernel

/-- A level at, and one below, the margin of each direction; a Gauge station's REPORT. -/
theorem witness_LevelsMoveTheBandWithHysteresis :
    let follow := fun b l => (WaterPlan.follow l ⟨pondBands, b⟩).inForce
    let gauge := station .enrolled none
    let reply := withCrc ([stationNumber 63, 0x81, stationNumber 63, 1] ++ halfBytes 640 ++ splitBand 0)
    let s := turning .receiving (.query 63) (some .gauge) reply (one 63 gauge)
    (WaterPlan.sound ⟨pondBands, 1⟩ = true ∧ WaterPlan.sound ⟨pondBands, 4⟩ = true) ∧
    (1 < follow 1 620 ∧ follow 1 619 = 1 ∧ follow 2 599 < 2 ∧ follow 2 600 = 2) ∧
    (s.awake ∧ s.station 63 = some gauge ∧ gauge.life = .enrolled ∧ gauge.service = none ∧ s.port.phase = .receiving ∧
      s.port.framing = false ∧ s.port.turn = some ⟨.query 63, some .gauge, false⟩ ∧ s.port.reply = reply ∧ s.stale .replyEnd = false) := by
  decide +kernel

def plannedService : Service := { service .off with ack := none, demand := none }

theorem witness_ProvisionAndEditWriteTheRecord :
    (base.accepts ∧ slotOf 63 = some 63 ∧ (3 : Byte).toNat ≤ 3 ∧ (2000 : Half).toNat ≤ 2000 ∧ base.station 63 = none ∧
      (∀ m st, base.station m = some st → st.serial ≠ 7) ∧ (7 : Serial) ∉ base.engine.strays) ∧
    (let s := { base with engine := { base.engine with strays := [7] } }
     s.accepts ∧ s.station 63 = none ∧ (∀ m st, s.station m = some st → st.serial ≠ 7) ∧ (7 : Serial) ∈ s.engine.strays ∧
       s.engine.hasErrand 7 = false ∧ s.engine.errands.length < 4) ∧
    ((one 0 connected).accepts ∧ (one 0 connected).station 63 = none ∧
      (∀ m st, (one 0 connected).station m = some st → st.serial ≠ 7 ∧ st.kind ≠ .gauge)) ∧
    ((one 0 connected).accepts ∧ (one 0 connected).station 63 = none ∧
      ∃ m st, (one 0 connected).station m = some st ∧ st.serial = 0x01020304) ∧
    (slotOf 0 = some 0 ∧ (one 0 connected).station 0 = some connected ∧ connected.service = some (service .connected) ∧
      connected.life ≠ .retiring) := by
  refine ⟨⟨by decide +kernel, by decide, by decide, by decide, by decide, empty_table rfl _, by decide⟩,
    ⟨by decide +kernel, no_station rfl _, empty_table rfl _, by decide, by decide, by decide⟩,
    ⟨by decide +kernel, by decide, fun m st h => by rw [(one_only 0 m connected st h).2]; decide⟩,
    ⟨by decide +kernel, by decide, 0, connected, one_self _ _, rfl⟩, by decide, one_self _ _, rfl, by decide⟩

/-- Off with limits 10 and 9, Isolated; K - R = 700 admits 300, and refuses 800; no plan. -/
theorem witness_CloseOpenReleaseMoveTheCondition :
    let watered := fun st => { one 5 st with water := pond 1 0 }
    let off := fun l : Nat => station .enrolled (some { service .off with limit := l, ack := none })
    let isolated := station .enrolled (some { service (.isolated .leakage) with ack := some ⟨false, 300, 2⟩ })
    ((watered (off 10)).accepts ∧ slotOf 5 = some 5 ∧ (watered (off 10)).station 5 = some (off 10) ∧
      (off 10).life = .enrolled ∧ (watered (off 10)).admission 10 = .granted) ∧
    ((watered (off 800)).accepts ∧ (watered (off 800)).admission 800 = .refused) ∧
    ((one 5 (off 10)).accepts ∧ (one 5 (off 10)).admission 10 = .noplan) ∧
    ((watered (off 9)).accepts ∧ (watered (off 9)).station 5 = some (off 9)) ∧
    ((watered isolated).accepts ∧ (Condition.isolated .leakage).isTrip = true ∧
      (watered isolated).station 5 = some isolated ∧ (watered isolated).admission 300 = .granted) := by
  decide +kernel

theorem witness_RetireStartsTheRetirement :
    let provisioned := station .provisioned (some plannedService)
    let gauge := station .enrolled none
    ((one 63 provisioned).accepts ∧ slotOf 63 = some 63 ∧ (one 63 provisioned).station 63 = some provisioned ∧
      provisioned.life = .provisioned) ∧
    ((one 0 connected).accepts ∧ slotOf 0 = some 0 ∧ (one 0 connected).station 0 = some connected ∧
      connected.life = .enrolled ∧ (service .connected).ack = some ⟨true, 300, 2⟩) ∧
    ((one 5 gauge).accepts ∧ slotOf 5 = some 5 ∧ (one 5 gauge).station 5 = some gauge ∧ gauge.service = none ∧
      gauge.life = .enrolled ∧ (one 5 gauge).engine.hasErrand gauge.serial = false ∧
      (one 5 gauge).engine.errands.length < 4) ∧
    ((one 5 { connected with life := .retiring }).accepts ∧
      (one 5 { connected with life := .retiring }).station 5 = some { connected with life := .retiring }) := by
  decide +kernel

/-- The third miss of a Service record with the changed flag clear and set, and of the Gauge record with the source Live; the
four timers. -/
theorem witness_RecordTimersRunOut :
    let two := { connected with missed := 2 }
    let changed := one 5 two |>.setRecord 5 ⟨true, some two⟩
    let gauge := { station .enrolled none with missed := 2 }
    let silent := { connected with missed := 3, silence := some 599999999 }
    let trippedStation := station .enrolled (some (service (.tripped (some 1))))
    ((one 5 two).awake ∧ (one 5 two).station 5 = some two ∧ two.silence = none ∧ two.missed = 2 ∧
      ((one 5 two).record 5).changed = false) ∧
    (changed.awake ∧ changed.station 5 = some two ∧ (changed.record 5).changed = true) ∧
    (let s := { one 63 gauge with water := pond 4 1250 }
     s.awake ∧ s.station 63 = some gauge ∧ gauge.service = none ∧ gauge.life = .enrolled ∧ gauge.silence = none ∧
       gauge.missed = 2 ∧ s.water.source = .live) ∧
    ((one 5 silent).awake ∧ (one 5 silent).station 5 = some silent ∧ silent.silence ≠ none ∧
      (one 5 silent).stale (.silenceTimeLimit 5) = false) ∧
    ((one 5 trippedStation).awake ∧ (one 5 trippedStation).station 5 = some trippedStation ∧
      trippedStation.life = .enrolled ∧ (one 5 trippedStation).stale (.recloseTimerExpiry 5) = false) ∧
    ((one 5 connected).awake ∧ (one 5 connected).station 5 = some connected ∧
      (service .connected).condition = .connected ∧ (service .connected).ackClosed = true ∧
      (one 5 connected).stale (.liveTimeLimit 5) = false) := by
  decide +kernel

/-- Scope 192; an Apply in flight; an empty and a full working set; an Apply with no slot Pending. -/
theorem witness_ApplyAnswersWithItsCounts :
    let busy := { base with account := { base.account with apply := some ⟨0x80, [(3, .pending)], 0⟩ } }
    let ended := { base with account := { base.account with apply := some ⟨0x80, [(3, .confirmed)], 0⟩ } }
    (base.accepts ∧ 192 ≤ (192 : Byte).toNat) ∧
    (busy.accepts ∧ (scopeOf 0x80).isSome = true ∧ busy.account.apply ≠ none) ∧
    (base.accepts ∧ scopeOf 63 = some (.slot 63) ∧ base.account.apply = none ∧ (base.applyAll (.slot 63)).2.1 = []) ∧
    (applying.accepts ∧ scopeOf 0x80 = some .all ∧ applying.account.apply = none ∧ (applying.applyAll .all).2.1 ≠ []) ∧
    (ended.awake ∧ ∃ a, ended.account.apply = some a ∧ a.count .pending = 0) := by
  refine ⟨by decide +kernel, by decide +kernel, by decide +kernel, by decide +kernel, rfl, ⟨0x80, [(3, .confirmed)], 0⟩, rfl, rfl⟩

/-- A lowering to 10, a raise that is granted, and one that is not. -/
theorem witness_ApplyTakesTheStagedPlan :
    let st := fun limit : Nat => station .enrolled (some { service .connected with staged := some ⟨limit, 2, false⟩ })
    let s := fun limit : Nat => { one 5 (st limit) with water := pond 1 0 }
    ((s 10).station 5 = some (st 10) ∧ (st 10).life = .enrolled ∧ 10 ≤ 300) ∧
    ((s 700).station 5 = some (st 700) ∧ 300 < 700 ∧ (s 700).admission (700 - 300) = .granted) ∧
    ((s 701).station 5 = some (st 701) ∧ 300 < 701 ∧ (s 701).admission (701 - 300) ≠ .granted) := by
  decide +kernel

/-- A record alone in slot 63, a level of band 1 with K - R = 700, and Bs of 300. -/
def restoring (sv : Service) : State :=
  { one 63 (station .enrolled (some sv)) with
    water := pond 1 0
    gov := { base.gov with s := 4800 }
    prot := { base.prot with settled := .holds } }

theorem restoring_only (sv sw : Service) (m : Slot) (su : Station) (h : (restoring sv).enrolledService m = some (su, sw)) :
    m = 63 := (one_only 63 m _ su ((enrolledService_iff _ _ _ _).mp h).1).1

/-- A due record of limit 10, admitted, and of limit 9; one Shed with both flags; with the Frequency flag, its demand 100
below Bs, admitted and not; with the Capacity flag, admitted and not; and a saw in Waiting, admitted and not. -/
theorem witness_RestoreTickTakesOneAction :
    let put := fun (limit : Nat) (c : Condition) => { service c with limit := limit, ack := some ⟨false, 300, 2⟩ }
    let ready := fun s : State => s.awake ∧ s.stale .restoreTick = false ∧ s.account.isOver = false ∧
      s.overcommitted = false ∧ s.prot.settled = .holds
    let saw := fun d : Nat => { base with water := pond 1 0, saw := { base.saw with state := .waiting, draw := some d } }
    (∀ sv m su sw, m < 63 → (restoring sv).enrolledService m = some (su, sw) → False) ∧
    (ready (restoring (put 10 (.tripped none))) ∧ (restoring (put 10 (.tripped none))).admission 10 = .granted ∧
      (restoring (put 9 (.tripped none))).saw.state ≠ .waiting ∧
      ((restoring (put 10 (.tripped none))).enrolledService 63).map Prod.snd = some (put 10 (.tripped none))) ∧
    (ready (restoring (put 300 (.shed (some 200) true))) ∧
      frequencyReady (restoring (put 300 (.shed (some 200) true))).gov.bs (put 300 (.shed (some 200) true)) = true) ∧
    ((restoring (put 300 (.shed (some 200) false))).admission 300 = .granted ∧
      (restoring (put 800 (.shed (some 200) false))).admission 800 = .refused ∧
      frequencyReady 300 (put 300 (.shed (some 201) false)) = false) ∧
    (ready (restoring (put 300 (.shed none true))) ∧ (restoring (put 300 (.shed none true))).admission 300 = .granted ∧
      (restoring (put 800 (.shed none true))).admission 800 = .refused) ∧
    ((saw 700).awake ∧ (saw 700).account.isOver = false ∧ (saw 700).overcommitted = false ∧ (∀ m, (saw 700).station m = none) ∧
      (saw 700).prot.settled ≠ .holds ∧ (saw 700).admission 700 = .granted ∧ (saw 701).admission 701 = .refused) := by
  refine ⟨fun sv m su sw hm h => absurd (restoring_only sv sw m su h) (Fin.ne_of_lt hm), ?_⟩
  decide +kernel

/-- Class 0, a Connected record after the pass, a record and a saw that the pass changes, and unresolvable clear. -/
theorem witness_CurtailmentShedsUntilItFits :
    let sv := fun (cls limit : Nat) => { service .connected with limit := limit, cls := cls, ack := some ⟨true, limit, cls⟩ }
    let st := fun (n : Slot) (cls limit : Nat) =>
      { station .enrolled (some (sv cls limit)) with serial := BitVec.ofNat 32 n.val }
    curtailing.account.unresolvable = false ∧
      (curtailing.station 0 = some (st 0 0 150) ∧ (st 0 0 150).service = some (sv 0 150) ∧ (sv 0 150).cls = 0) ∧
      (curtailing.curtail.station 1 = some (st 1 1 200) ∧ (sv 1 200).condition = .connected) ∧
      curtailing.curtail.station 8 ≠ curtailing.station 8 ∧
      (let s := { curtailing with saw := { base.saw with state := .preparing, draw := some 100, reserved := 100, cls := 3 } }
       s.curtail.saw ≠ s.saw) := by
  decide +kernel

def retiring : Station := { connected with life := .retiring, mute := .queued }

/-- Each message; a MUTE of a Service record with its flag set and clear, of a Gauge record, and of no record; void turns;
a start bit, and none. -/
theorem witness_LinePortPhasesFollowTheTurn :
    let mute := Message.mute 0x01020304
    let gauge := station .retiring none
    let void := fun (phase : Phase) (m : Message) =>
      { turning phase m none [] base with port := { (turning phase m none [] base).port with turn := some ⟨m, none, true⟩ } }
    (let s := turning .transmitting (.query 5) (some .service) [] base
     s.awake ∧ s.port.phase = .transmitting ∧ s.stale .transmissionEnd = false ∧
       s.port.turn = some ⟨.query 5, some .service, false⟩ ∧ Message.expectsReply (.query 5) = true) ∧
    (let s := turning .transmitting (.shed 3 420) none [] base
     s.awake ∧ s.port.phase = .transmitting ∧ s.port.turn = some ⟨.shed 3 420, none, false⟩) ∧
    (let s := turning .transmitting .lineClear none [] base
     s.awake ∧ s.port.phase = .transmitting ∧ s.port.turn = some ⟨.lineClear, none, false⟩) ∧
    (let s := turning .transmitting mute none [] (one 5 retiring |>.setRecord 5 ⟨true, some retiring⟩)
     s.awake ∧ s.port.turn = some ⟨mute, none, false⟩ ∧ s.station 5 = some retiring ∧ retiring.serial = 0x01020304 ∧
       (∀ m, m ≠ 5 → s.station m = none) ∧ retiring.life = .retiring ∧ (s.record 5).changed = true) ∧
    (let s := turning .transmitting mute none [] (one 5 gauge)
     s.awake ∧ s.station 5 = some gauge ∧ gauge.serial = 0x01020304 ∧ gauge.service = none ∧
       (∀ m, m ≠ 5 → s.station m = none) ∧ (s.record 5).changed = false) ∧
    (let s := turning .transmitting mute none [] base
     s.awake ∧ ∀ m, s.station m = none) ∧
    (let s := void .transmitting mute
     s.awake ∧ s.port.phase = .transmitting ∧ ∃ t, s.port.turn = some t ∧ t.void = true ∧ t.message.expectsReply = false) ∧
    ((void .window (.query 5)).port.phase = .window ∧ (void .receiving (.query 5)).port.phase = .receiving) ∧
    ((0x00A : BitVec 9).getLsbD 0 = false ∧ (0x1FF : BitVec 9).getLsbD 0 = true) ∧
    (turning .window (.query 5) none [] base).port.phase = .window ∧
    (turning .receiving (.query 5) none [] base).port.phase = .receiving ∧ base.port.phase = .idle ∧
    (let s := turning .quiet (.query 5) none [] base
     s.awake ∧ s.port.phase = .quiet ∧ s.stale .turnEnd = false ∧ s.engine.stopping = false) := by
  refine ⟨by decide +kernel, by decide +kernel, by decide +kernel, by decide +kernel, by decide +kernel, by decide +kernel,
    ⟨rfl, rfl, _, rfl, rfl, rfl⟩, by decide +kernel, by decide +kernel, rfl, rfl, rfl, by decide +kernel⟩

/-- A QUERY, an ORDER, and an ASSIGN at its first and third try. -/
theorem witness_UnansweredTurnsAreMisses :
    let st := { connected with missed := 1 }
    let s := fun (phase : Phase) (m : Message) => turning phase m (some .service) [0xFF] (one 63 st)
    let order := Message.order 63 ⟨true, 300, 2⟩
    let assign := fun a : Nat => Errand.assign 0x01020304 63 .claim a
    let try' := fun a : Nat => { s .window (.assign 0x01020304 63) with
      engine := { base.engine with errands := [assign a] } }
    ((s .window (.query 63)).awake ∧ (s .window (.query 63)).port.turn = some ⟨.query 63, some .service, false⟩ ∧
      (s .window order).port.turn = some ⟨order, some .service, false⟩ ∧ (s .window order).station 63 = some st ∧
      st.life = .enrolled ∧ st.silence = none ∧ st.missed < 2 ∧ st.service = some (service .connected) ∧
      (s .window order).port.phase = .window ∧ (s .window order).stale .replyWindowTimeout = false) ∧
    ((s .receiving (.query 63)).port.phase = .receiving ∧ (s .receiving (.query 63)).stale .replyLengthLimit = false ∧
      (s .receiving (.query 63)).stale .replyEnd = false ∧ replyOf (s .receiving (.query 63)).port.reply = none) ∧
    ((try' 1).awake ∧ (try' 1).port.turn = some ⟨.assign 0x01020304 63, some .service, false⟩ ∧
      (try' 1).engine.errands = [assign 1] ∧ (try' 2).engine.errands = [assign 2] ∧
      ∀ m su, (try' 2).station m = some su → su.mute ≠ .wanted) := by
  refine ⟨by decide +kernel, by decide +kernel, rfl, rfl, rfl, rfl, ?_⟩
  intro m su h
  rw [(one_only 63 m _ su h).2]
  decide

/-- A trip 1 of a Silent record to a QUERY, in the highest slot; and a Retiring record, open with limit 0, to an ORDER. -/
theorem witness_ValidReportUpdatesTheRecord :
    let reply := fun (closed : Bool) (limit : Half) (cls trip : Byte) =>
      withCrc ([stationNumber 63, 0x81, stationNumber 63, 0, if closed then 1 else 0] ++ halfBytes limit ++ [cls] ++
        halfBytes 210 ++ [trip])
    let silent := { connected with missed := 3, silence := some 5 }
    let order := Message.order 63 ⟨false, 0, 2⟩
    let sv := { service .off with limit := 0 }
    let leaving := station .retiring (some sv)
    (let s := turning .receiving (.query 63) (some .service) (reply false 300 3 1) (one 63 silent)
     s.awake ∧ s.stale .replyEnd = false ∧ s.station 63 = some silent ∧ silent.life = .enrolled ∧
       silent.service = some (service .connected) ∧ (3 : Byte).toNat ≤ 3 ∧ (1 : Byte).toNat ≤ 2 ∧
       (service .connected).condition.isTrip = false ∧ (service .connected).ackClosed = true ∧
       s.port.phase = .receiving ∧ s.port.framing = false ∧ s.port.turn = some ⟨.query 63, some .service, false⟩ ∧
       s.port.reply = reply false 300 3 1) ∧
    (let s := turning .receiving order (some .service) (reply false 0 2 0) (one 63 leaving)
     s.awake ∧ s.stale .replyEnd = false ∧ s.station 63 = some leaving ∧ leaving.life = .retiring ∧ sv.limit = 0 ∧ sv.cls = 2 ∧
       leaving.mute = .idle ∧ s.engine.hasErrand leaving.serial = false ∧ s.engine.errands.length < 4 ∧
       s.port.turn = some ⟨order, some .service, false⟩ ∧ s.port.reply = reply false 0 2 0) := by
  decide +kernel

/-- R144: an ORDER to open, a CLOSE taken while it is in flight, and a REPORT that it tripped with the wrong limit: the target is
open again, as the ORDER carried it, and the slot joins the push hold set. -/
theorem test_replyEnd_disobeyed_order_after_close_and_trip :
    let reply := withCrc ([stationNumber 63, 0x81, stationNumber 63, 0, 0] ++ halfBytes 200 ++ [2] ++ halfBytes 210 ++ [1])
    let s := turning .receiving (.order 63 ⟨false, 300, 2⟩) (some .service) reply (one 63 connected)
    s.targetAt 63 = some ⟨true, 300, 2⟩ ∧ (after .replyEnd s).targetAt 63 = some ⟨false, 300, 2⟩ ∧
      (after .replyEnd s).engine.hold = [63] := by
  decide +kernel

/-- Class 3, trip indication 2, the highest slot. -/
theorem witness_ValidTakeEnrolsTheRecord :
    let st := station .provisioned (some plannedService)
    let reply := withCrc ([stationNumber 63, 0x83] ++ wordBytes st.serial ++ [stationNumber 63, 0, 1] ++ halfBytes 500 ++ [3] ++
      halfBytes 180 ++ [2])
    let s := turning .receiving (.assign st.serial 63) (some .service) reply (one 63 st)
    s.awake ∧ s.station 63 = some st ∧ st.life = .provisioned ∧ st.service = some plannedService ∧ (3 : Byte).toNat ≤ 3 ∧
      (2 : Byte).toNat ≤ 2 ∧ s.port.phase = .receiving ∧ s.port.framing = false ∧
      s.port.turn = some ⟨.assign st.serial 63, some .service, false⟩ ∧ s.port.reply = reply ∧ s.stale .replyEnd = false := by
  decide +kernel

/-- A roll step of a prefix, with what is left of the stack, the strays and the errands. -/
def rolling (phase : Phase) (p : Prefix) (reply : List Byte) (stack : List Prefix) (strays : List Serial)
    (errands : List Errand) (s : State) : State :=
  let t := turning phase (.roll p) none reply s
  { t with engine := { t.engine with
      state := .running, fresh := false, enrolment := .active .byHost false, stack := stack, strays := strays,
      errands := errands } }

/-- Each clause: Silence, its end, a Collision at lengths 31 and 32, and a Clean serial with a record, as a new stray,
with the errand queue full, and with the stray list full. -/
theorem witness_RollOutcomesFollowTheirClass :
    let half : Prefix := ⟨1, 0x80000000⟩
    let answer := withCrc ([0, 0x82] ++ wordBytes 0x01020304)
    let four := List.replicate 4 (Errand.mute 9)
    let eight : List Serial := [11, 12, 13, 14, 15, 16, 17, 18]
    let silent := fun stack => rolling .window .empty [] stack [] [] base
    let garbled := fun len => { rolling .receiving ⟨len, 0⟩ [0xFF] [half] [] [] base with
      port := { (rolling .receiving ⟨len, 0⟩ [0xFF] [half] [] [] base).port with framing := true } }
    let clean := rolling .receiving ⟨1, 0⟩ answer [half]
    ((silent [half]).awake ∧ (silent [half]).port.turn = some ⟨.roll .empty, none, false⟩ ∧
      (silent [half]).engine.enrolment = .active .byHost false ∧ (silent [half]).engine.stopping = false ∧
      (silent [half]).port.phase = .window ∧ (silent [half]).engine.stack ≠ [] ∧
      (silent [half]).stale .replyWindowTimeout = false ∧ (silent [half]).stale .replyEnd = false) ∧
    ((silent []).awake ∧ (silent []).port.phase = .window ∧ (silent []).engine.stack = []) ∧
    ((garbled 31).port.phase = .receiving ∧ (garbled 31).port.framing = true ∧ 31 < 32 ∧
      ∀ q ∈ (garbled 31).engine.stack, Prefix.overlaps ⟨31, 0⟩ q = false) ∧
    ((garbled 32).port.phase = .receiving ∧ (garbled 32).port.framing = true ∧ (garbled 32).engine.stack ≠ []) ∧
    (let s := clean [] [] (one 5 connected)
     s.awake ∧ s.port.phase = .receiving ∧ s.port.framing = false ∧ s.port.reply = answer ∧
       Prefix.begins ⟨1, 0⟩ 0x01020304 = true ∧ s.engine.hasErrand 0x01020304 = false ∧ s.station 5 = some connected ∧
       connected.serial = 0x01020304 ∧ connected.life ≠ .retiring ∧ (∀ m, m ≠ 5 → s.station m = none) ∧
       s.engine.errands.length < 4 ∧ s.engine.stack ≠ []) ∧
    (let s := clean [11] [] base
     s.awake ∧ s.engine.hasErrand 0x01020304 = false ∧ (∀ n, s.station n = none) ∧ 0x01020304 ∉ s.engine.strays ∧
       s.engine.errands.length < 4 ∧ s.engine.strays.length < 8 ∧ s.engine.stack ≠ []) ∧
    (let s := clean [] four base
     s.awake ∧ s.engine.hasErrand 0x01020304 = false ∧ 4 ≤ s.engine.errands.length ∧ s.engine.strays.length < 8 ∧
       ∀ q ∈ s.engine.stack, Prefix.overlaps ⟨1, 0⟩ q = false) ∧
    (let s := clean eight [] base
     s.awake ∧ 8 ≤ s.engine.strays.length ∧ 0x01020304 ∉ s.engine.strays ∧ s.engine.stack ≠ []) := by
  decide +kernel

def engined (e : EngineState) : State := { base with engine := { base.engine with state := e, fresh := false } }

theorem witness_LineCommandsMoveTheEngineState :
    ∀ e : EngineState, (engined e).accepts ∧ (∀ k, (engined e).engine.enrolment ≠ .active k true) ∧
      (engined e).engine.state = e := by
  intro e
  exact ⟨⟨rfl, rfl⟩, fun _ h => Enrolment.noConfusion h, rfl⟩

/-- Idle; a turn in flight; a stop in progress with the line Idle, and in its quiet gap. -/
theorem witness_LineStopEmptiesTheQueues :
    let s := engined .running
    let u := turning .transmitting .lineClear none [] s
    let stopping := fun s : State => { s with engine := { s.engine with stopping := true } }
    ((∀ n st, s.station n = some st → st.mute = .idle) ∧ s.awake ∧ s.host.refuses = false ∧ s.engine.state ≠ .stopped ∧
      s.port.phase = .idle) ∧
    ((∀ n st, u.station n = some st → st.mute = .idle) ∧ u.awake ∧ u.host.refuses = false ∧ u.engine.state ≠ .stopped ∧
      u.port.phase ≠ .idle) ∧
    ((stopping s).awake ∧ (stopping s).engine.stopping = true ∧ (stopping s).port.phase = .idle) ∧
    (let v := stopping (turning .quiet .lineClear none [] base)
     v.awake ∧ v.engine.stopping = true ∧ v.port.phase = .quiet ∧ v.stale .turnEnd = false) :=
  ⟨⟨empty_table rfl _, by decide⟩, ⟨empty_table rfl _, by decide⟩, by decide, by decide⟩

def errand (r : Errand) : State :=
  let s := one 5 { connected with life := .provisioned }
  { s with engine := { s.engine with state := .running, fresh := false, errands := [r] } }

/-- Each source of a turn, none, and an ASSIGN that no record matches. -/
theorem witness_TurnChoiceFollowsItsOrder :
    let shed := fun e : EngineState => { engined e with engine := { (engined e).engine with sheds := [⟨3, 420⟩] } }
    let pushing := station .enrolled (some (service .off))
    let push := { one 5 pushing with engine := (engined .running).engine }
    let raising := { one 63 (station .enrolled (some { service .connected with ack := some ⟨false, 300, 2⟩ })) with
      engine := (engined .running).engine }
    let rolling := { base with engine := { (engined .running).engine with
      enrolment := .active .byHost false, stack := [⟨0, 0⟩] } }
    let polling := { one 63 connected with engine := (engined .running).engine }
    (base.awake ∧ base.port.phase = .idle ∧ base.engine.stopping = false ∧ base.engine.state = .stopped) ∧
    (let s := { base with engine := { base.engine with state := .running } }
     s.awake ∧ s.port.phase = .idle ∧ s.engine.stopping = false ∧ s.engine.fresh = true) ∧
    ((shed .held).awake ∧ (shed .held).port.phase = .idle ∧ (shed .held).engine.sheds = [⟨3, 420⟩] ∧
      (shed .running).engine.fresh = false) ∧
    ((engined .held).awake ∧ (engined .held).engine.sheds = []) ∧
    (let s := errand (.assign 0x01020304 5 .claim 0)
     s.awake ∧ s.port.phase = .idle ∧ s.engine.stopping = false ∧ s.engine.state = .running ∧ s.engine.fresh = false ∧
       s.engine.sheds = [] ∧ s.station 5 = some { connected with life := .provisioned }) ∧
    (let s := errand (.mute 9)
     s.awake ∧ s.engine.errands = [.mute 9] ∧ ∀ m su, s.station m = some su → su.mute ≠ .wanted) ∧
    (push.awake ∧ push.engine.errands = [] ∧ push.station 5 = some pushing ∧ push.pushable 5 = true ∧
      push.lowering 5 = true ∧ ∀ m, m < 5 → push.pushable m = false ∨ push.lowering m = false) ∧
    (let s := { errand (.assign 8 5 .claim 0) with table := base.table }
     s.awake ∧ s.engine.errands = [.assign 8 5 .claim 0] ∧ ∀ m, s.station m = none) ∧
    (raising.awake ∧ raising.pushable 63 = true ∧ (∀ m, raising.pushable m = true → raising.lowering m = false) ∧
      ∀ m, m < 63 → raising.pushable m = false) ∧
    (rolling.awake ∧ (∀ m, rolling.pushable m = false) ∧ rolling.engine.stack = [⟨0, 0⟩] ∧
      rolling.engine.lastRoll = false) ∧
    (let s := { rolling with engine := { rolling.engine with lastRoll := true } }
     s.engine.lastRoll = true ∧ s.pollNext = none ∧
       { polling with engine := s.engine }.pollNext = some 63) ∧
    (let s := engined .running
     s.awake ∧ (∀ m, s.pushable m = false) ∧ s.engine.stack = [] ∧ s.pollNext = none) ∧
    (polling.awake ∧ (∀ m, polling.pushable m = false) ∧ polling.engine.enrolment = .inactive ∧
      polling.pollNext = some 63) := by
  refine ⟨by decide, by decide, by decide, by decide, by decide +kernel, ⟨by decide, rfl, ?_⟩, by decide +kernel,
    by decide +kernel, by decide +kernel, by decide +kernel, by decide +kernel, by decide +kernel, by decide +kernel⟩
  intro m su h
  have := one_only 5 m { connected with life := .provisioned } su h
  rw [this.2]
  decide

/-- A third miss; enrollment Inactive and Active; a record silent for 600 s; a listed stray and another serial. -/
theorem witness_EnrollmentRowsAndStrays :
    let third := errand (.assign 0x01020304 5 .claim 2)
    let active := { base with engine := { base.engine with enrolment := .active .automatic false } }
    let silent := { connected with missed := 3, silence := some 600000000 }
    let long := { one 5 silent with engine := (engined .running).engine }
    let listed := { base with engine := { base.engine with strays := [7] } }
    (third.awake ∧ third.engine.errands = [.assign 0x01020304 5 .claim 2] ∧
      (∀ r ∈ ([] : List Errand), Errand.isAssign 0x01020304 5 r = false) ∧
      ∀ m su, third.station m = some su → su.mute ≠ .wanted) ∧
    (base.awake ∧ base.host.refuses = false ∧ base.engine.enrolment = .inactive) ∧
    (active.awake ∧ active.host.refuses = false ∧ active.engine.enrolment = .active .automatic false) ∧
    (long.awake ∧ long.engine.state = .running ∧ long.engine.enrolment = .inactive ∧ long.engine.rejoin = none ∧
      long.station 5 = some silent ∧ silent.life = .enrolled ∧ silent.silence = some 600000000) ∧
    (listed.awake ∧ listed.host.refuses = false ∧ (7 : Serial) ∈ listed.engine.strays ∧
      (8 : Serial) ∉ listed.engine.strays ∧ listed.stale .rejoinIntervalExpiry = false) := by
  refine ⟨⟨by decide, rfl, by decide, ?_⟩, by decide, by decide, by decide +kernel, by decide⟩
  intro m su h
  have := one_only 5 m { connected with life := .provisioned } su h
  rw [this.2]
  decide

def sawing (w : Saw) : State := { base with saw := w }

theorem witness_ClutchEdgesPostFeedForward :
    let engaging := { base.saw with raw := true, debounce := some 1 }
    let disengaging := { base.saw with
      clutch := true, debounce := some 1, state := .cutting, draw := some 1500, reserved := 1500, engaged := 1500 }
    (base.awake ∧ base.saw.raw ≠ true) ∧
    (let s := sawing { engaging with state := .released, draw := some 1500, reserved := 1500 }
     s.awake ∧ s.saw.debounce = some 1 ∧ s.saw.raw = true ∧ s.saw.clutch = false ∧ s.saw.state = .released ∧
       s.stale .debounceTimerExpiry = false) ∧
    ((sawing disengaging).awake ∧ (sawing disengaging).saw.raw = false ∧ (sawing disengaging).saw.clutch = true ∧
      (sawing disengaging).saw.state = .cutting) ∧
    ((sawing { disengaging with state := .closing }).saw.state = .closing ∧
      (sawing { disengaging with state := .fault }).saw.state = .fault) ∧
    (let s := sawing engaging
     s.awake ∧ s.saw.debounce = some 1 ∧ s.saw.raw = true ∧ s.saw.clutch = false ∧ s.saw.state = .idle ∧
       s.saw.draw = none ∧ s.saw.reserved = 0) := by
  decide

/-- Draws of 99, 100, 4,000 and 4,001; the three answers of admission at their edges, K - R being 3,400. -/
theorem witness_SawPermitIsAskedTimedAndEnded_requests :
    let s := { base with water := pond 4 1250 }
    (base.accepts ∧ (99 : Half).toNat < 100 ∧ 4000 < (4001 : Half).toNat) ∧
    ((sawing { base.saw with state := .fault }).accepts ∧ 100 ≤ (100 : Half).toNat ∧ (100 : Half).toNat ≤ 4000 ∧
      (sawing { base.saw with state := .fault }).saw.state ≠ .idle) ∧
    (s.accepts ∧ (4000 : Half).toNat ≤ 4000 ∧ s.saw.state = .idle ∧ s.admission 3400 = .granted ∧
      s.admission 3401 = .refused ∧ base.admission 100 = .noplan) := by
  decide +kernel

/-- Each state of the saw, with no row of its timers stale. -/
theorem witness_SawPermitIsAskedTimedAndEnded :
    (∀ st : SawState, let s := sawing { base.saw with state := st }
      s.awake ∧ s.host.refuses = false ∧ s.saw.state = st ∧ s.saw.clutch = false ∧ ∀ row, s.stale row = false) ∧
    (sawing { base.saw with state := .cutting, clutch := true }).saw.clutch = true ∧
    (100 ≤ (100 : Half).toNat ∧ (4000 : Half).toNat ≤ 4000 ∧ 1 ≤ (1 : Byte).toNat ∧ (3 : Byte).toNat ≤ 3) :=
  ⟨fun _ => ⟨rfl, rfl, rfl, rfl, fun _ => rfl⟩, rfl, by decide⟩

/-- f at 49,800 and at the under-frequency threshold, one below each, and one below the trip threshold; an under-frequency
window with B 0 and with B above 0, before and after, its count 1, 2 and 3; a saw in Preparing with Bs at D + 50 and one
below; the trim counter at 14 and 15. -/
theorem witness_CompletionsMoveProtectionAndSaw :
    let at' := fun f : Nat => (⟨f, .inRange, true⟩ : Completion)
    let offered := fun (f : Nat) (s : State) => State.offer receivers 0 (at' f) s
    let counted := fun u : Nat => { base with prot := { base.prot with uf := u } }
    let loaded := { base with gov := { base.gov with bFine := 2048000, b := 2000 } }
    let preparing := fun d : Nat => sawing { base.saw with state := .preparing, draw := some d, reserved := d }
    let full := fun d : Nat => { preparing d with gov := { base.gov with s := 4800 } }
    receivers.Perm receivers ∧
    (base.prot.trip = false ∧ base.fset = 50000 ∧ base.prot.tripOffset = 5000 ∧ base.prot.ufOffset = 1000) ∧
    ((54999 : Int) < base.fset + (base.prot.tripOffset : Int) ∧ base.fset - 200 ≤ 49800 ∧ ¬ base.fset - 200 ≤ 49799 ∧
      ¬ 49000 < base.fset - (base.prot.ufOffset : Int) ∧ 48999 < base.fset - (base.prot.ufOffset : Int)) ∧
    ((counted 1).gov.b = 0 ∧ (offered 48999 (counted 1)).gov.b = 0 ∧ (offered 48999 (counted 2)).gov.b = 0 ∧
      (offered 48999 (counted 3)).gov.b = 0 ∧ base.prot.interval = none ∧ (counted 2).prot.uf = 2) ∧
    (0 < loaded.gov.b ∧ 0 < (offered 48999 loaded).gov.b) ∧
    ((full 250).saw.state = .preparing ∧ (full 250).saw.draw = some 250 ∧ (full 250).gov.bs = 300 ∧
      250 + 50 ≤ (offered 50500 { full 250 with gov := { loaded.gov with s := 4800 } }).gov.bs ∧
      (full 251).gov.bs < 251 + 50 ∧ (offered 50000 (full 251)).gov.bs < 251 + 50) ∧
    ((gating { base.gate with trim := 14 }).gate.trim < 15 ∧ (gating { base.gate with trim := 15 }).gate.trim = 15) := by
  refine ⟨.refl _, ?_⟩
  decide +kernel

/-- f at the trip threshold itself; a later completion of a trip. -/
theorem witness_OverspeedTripsInEveryReceiverOrder :
    receivers.Perm receivers ∧ base.prot.trip = false ∧
      base.fset + (base.prot.tripOffset : Int) ≤ ((⟨55000, .inRange, false⟩ : Completion).f : Int) ∧
      (tripped base).prot.trip = true :=
  ⟨.refl _, rfl, by decide, rfl⟩

/-- No trip; Acquiring; last f at 50,500 and at 50,499; Lost. -/
theorem witness_TripClearEndsTheTrip :
    let s := fun st f => tripped { base with fmu := { base.fmu with state := st, lastF := f } }
    (base.accepts ∧ base.prot.trip = false) ∧
    ((s .acquiring none).accepts ∧ (s .acquiring none).prot.trip = true ∧ (s .acquiring none).fmu.state = .acquiring) ∧
    ((s .tracking (some 50500)).accepts ∧ (s .tracking (some 50500)).fset + 500 ≤ ((50500 : Nat) : Int)) ∧
    ((s .tracking (some 50499)).accepts ∧ ((50499 : Nat) : Int) < (s .tracking (some 50499)).fset + 500) ∧
    ((s .lost none).accepts ∧ (s .lost none).fmu.state = .lost) := by
  decide

/-- A deficit; a class passed through with auto-shed Off; class 3 shed. -/
theorem witness_ShedStepTakesTheHighestClass :
    let due := fun s : State => s.awake ∧ s.prot.trip = false ∧ s.prot.uf = 3 ∧ s.prot.interval = none
    let low := { base with prot := { base.prot with uf := 3 } }
    let off := { dipping with prot := { dipping.prot with auto := false } }
    (due low ∧ ∀ c, c ≤ 3 → 1 ≤ c → low.qualifies c = false) ∧
    (due off ∧ off.qualifies 3 = true ∧ off.prot.auto = false) ∧
    (due dipping ∧ dipping.qualifies 3 = true ∧ dipping.prot.auto = true ∧ dipping.engine.state ≠ .stopped ∧
      dipping.engine.sheds = [] ∧ dipping.saw.cls ≠ 3 ∧ (dipping.shedList 3).length = 2) := by
  refine ⟨⟨by decide, ?_⟩, by decide +kernel, by decide +kernel⟩
  intro c h1 h2
  interval_cases c <;> decide +kernel

/-- The limits of PROT SET, and values one outside them. -/
theorem witness_SettingsAreStored :
    (base.awake ∧ base.host.refuses = false ∧ base.prot.lock = false) ∧
    (let s := { base with prot := { base.prot with lock := true, settled := .running 1 } }
     s.awake ∧ s.prot.lock = true ∧ s.prot.settled = .running 1 ∧ s.stale .settledTimerExpiry = false ∧
       s.stale .shedIntervalExpiry = false) ∧
    ((1999 : Half).toNat < 2000 ∧ 8000 < (8001 : Half).toNat ∧ (299 : Half).toNat < 300 ∧ 3000 < (3001 : Half).toNat ∧
      (0 : Byte).toNat < 1 ∧ 10 < (11 : Byte).toNat) ∧
    (2000 ≤ (2000 : Half).toNat ∧ (8000 : Half).toNat ≤ 8000 ∧ 300 ≤ (300 : Half).toNat ∧ (3000 : Half).toNat ≤ 3000 ∧
      1 ≤ (1 : Byte).toNat ∧ (10 : Byte).toNat ≤ 10) ∧
    ((2 : Byte) ≠ 0 ∧ (2 : Byte) ≠ 1) := by
  decide

/-- Slots 63 and 64; a changed record in slot 63, and none. -/
theorem witness_ReadsGiveTheStateUnchanged :
    (base.accepts ∧ slotOf 63 = some 63 ∧ 63 < (64 : Byte).toNat) ∧
    (let s := base.setRecord 63 ⟨true, none⟩
     s.accepts ∧ (s.record 63).changed = true ∧ ∀ m : Slot, m < 63 → (s.record m).changed = false) ∧
    ∀ m : Slot, (base.record m).changed = false := by
  decide +kernel

theorem witness_TransactionsGiveTheResponse :
    let forming := fun r => { base with host := { base.host with forming := some ⟨0x34, r⟩ } }
    (base.awake ∧ base.host.transaction = none ∧ base.host.forming = none ∧ base.host.refuses = false) ∧
    ((forming (.plain .done)).awake ∧ (forming (.plain .done)).host.transaction = none ∧
      (forming (.plain .done)).host.forming = some ⟨0x34, .fixed .done []⟩ ∧
      (forming (.plain .done)).stale .responseReady = false) ∧
    (forming (.reading .gate)).host.forming = some ⟨0x34, .reading .gate⟩ ∧
    (shiftedIn (mosiOf [0x34, 0x01, 0x05, 0xC7]) = [0x34, 0x01, 0x05, 0xC7] ∧
      frameFails [0x34, 0x01, 0x05, 0xC7] = true) ∧
    ([false, false, true, true, false, true, false] : List Bool).length < 8 := by
  decide +kernel

/-- Seven spare bits after a frame. -/
theorem witness_FramesKeepTheirChecksAndLengths :
    (List.replicate 7 true).length < 8 ∧ decodeFrame [0x34, 0x01, 0x05, 0xC6] = .command (.closeSlot 5) ∧ base.station 63 = none ∧ (one 63 connected).station 63 ≠ none ∧ (pond 4 1250).sound ∧
      (engined .running).engine.bounded := by
  decide +kernel

theorem witness_ResetsLeaveTheirTables : base.awake ∧ ({ base with resetting := some .pin } : State).resetting = some .pin := by
  decide

theorem witness_SupplyResetEmptiesTheTable :
    base.accepts ∧ (sawing { base.saw with clutch := true }).accepts := by decide

/-! ### Sound states that a step leaves -/

/-- A command on a state that no reset leaves, with a plan, a station and the line up. -/
def waiting (i : Instr) : State :=
  { one 5 connected with
    water := pond 2 640
    engine := (engined .held).engine
    pending := [i] }

theorem witness_GovernorStaysSound : (waiting (.bankDisable 7)).governorSound ∧ ∃ t, step (waiting (.bankDisable 7)) = .next t :=
  ⟨by decide +kernel, _, rfl⟩

theorem witness_GateStaysSound : (waiting (.gateSet 550)).gateSound ∧ ∃ t, step (waiting (.gateSet 550)) = .next t :=
  ⟨by decide +kernel, _, rfl⟩

theorem witness_MeasurementWaterAndAlarmsStaySound :
    (waiting (.risingCrossing 0)).fmuSound ∧ (waiting (.risingCrossing 0)).water.sound ∧
      (waiting (.risingCrossing 0)).alarmsSound ∧ ∃ t, step (waiting (.risingCrossing 0)) = .next t :=
  ⟨by decide +kernel, by decide +kernel, by decide +kernel, _, rfl⟩

theorem witness_StationTableStaysSound :
    (waiting (.edit 5 300 1)).tableSound ∧ ∃ t, step (waiting (.edit 5 300 1)) = .next t := by
  refine ⟨⟨?_, ?_, ?_, ?_⟩, _, rfl⟩
  · intro n st h
    rw [(one_only 5 n connected st h).2]
    decide
  · intro n m st su h h2 _
    rw [(one_only 5 n connected st h).1, (one_only 5 m connected su h2).1]
  · intro _ _ _
    exact List.not_mem_nil
  · intro n m st su h h2 _ _
    rw [(one_only 5 n connected st h).1, (one_only 5 m connected su h2).1]

theorem witness_AccountStaysSound : (waiting (.reserveSet 100)).accountSound ∧ ∃ t, step (waiting (.reserveSet 100)) = .next t :=
  ⟨by decide +kernel, _, rfl⟩

theorem witness_LineStaysSound : (waiting .lineResume).lineSound ∧ ∃ t, step (waiting .lineResume) = .next t :=
  ⟨by decide +kernel, _, rfl⟩

theorem witness_SawStaysSound : (waiting (.sawRequest 1000)).sawSound ∧ ∃ t, step (waiting (.sawRequest 1000)) = .next t :=
  ⟨by decide +kernel, _, rfl⟩

theorem witness_DecodeOfEncodeIsTheCommand :
    ((Instr.closeSlot 5).wellFormed = true ∧ encodeFrame (.closeSlot 5) = some [0x34, 0x01, 0x05, 0xC6]) ∧
      ((Instr.planLoad []).wellFormed = true ∧ encodeFrame (.planLoad []) = some [0x29, 0x00, 0xD7]) ∧
      ((Instr.planLoad (List.replicate 8 0x258898E100)).wellFormed = true ∧
        (encodeFrame (.planLoad (List.replicate 8 0x258898E100))).isSome = true) := by
  decide +kernel

end Sys2Proof.Machine.Slice0
end

/-! ## Proofs: frequency measurement (01_frequency_measurement.md) -/

namespace Sys2Proof.Machine

/-! ### A rising crossing (R2 to R4) -/

/-- R2: the row of a crossing, carried out unless a reset is in progress. -/
theorem exec_risingCrossing (sense : BitVec 8) (s : State) :
    exec (.risingCrossing sense) s = live (State.crossing sense) s := rfl

/-- R3: the periods of the glitch class. -/
theorem classify_eq_glitch_iff (period : Nat) : classify period = .glitch ↔ period < 6000 := by
  unfold classify
  split
  case isTrue short => simp [short]
  case isFalse long => split <;> simp [long]

/-- R4: measuring a glitch period changes nothing. -/
theorem State.measure_of_glitch (sense : BitVec 8) (t r : BitVec 24) (s : State) (short : periodOf t r < 6000) :
    s.measure sense t r = s := by
  simp only [State.measure, (classify_eq_glitch_iff _).mpr short]

/-- R2, R3: outside Lost a crossing with a reference restarts the silence timer and measures its period. -/
theorem State.crossing_of_reference (sense : BitVec 8) (s : State) (r : BitVec 24) (tracked : s.fmu.state ≠ .lost)
    (ref : s.fmu.reference = some r) :
    s.crossing sense =
      { s with fmu := { s.fmu with silence := some Config.silenceTime } }.measure sense s.fmu.timebase r := by
  unfold State.crossing
  rw [ref]
  cases state : s.fmu.state with
  | lost => exact absurd state tracked
  | acquiring => rfl
  | tracking => rfl

/-- Settles O6: the crossing restarts the silence timer and measures a period of the glitch class, which changes no more. -/
theorem glitchCrossingIsDiscarded : Obligations.GlitchCrossingIsDiscarded := by
  intro sense s r awake tracked ref short
  rw [exec_risingCrossing, live_of_awake _ s awake, State.crossing_of_reference sense s r tracked ref,
    State.measure_of_glitch sense _ r _ short]
  rfl

end Sys2Proof.Machine

/-! ## Proofs: frequency protection and load shedding (10_frequency_protection_and_load_shedding.md) -/

namespace Sys2Proof.Machine

/-! ### TRIP CLEAR (R170) -/

/-- R170: the two refusals, while Acquiring and while Tracking with last f still at or above f_set + 500. -/
theorem State.clearRefused_iff (s : State) :
    s.clearRefused = true ↔ s.fmu.state = .acquiring ∨
      s.fmu.state = .tracking ∧ ∃ f, s.fmu.lastF = some f ∧ s.fset + 500 ≤ (f : Int) := by
  unfold State.clearRefused
  cases s.fmu.state with
  | lost => simp
  | acquiring => simp
  | tracking => cases s.fmu.lastF <;> simp

/-- R170, R19: what TRIP CLEAR does once it is taken, in the order of its checks. -/
theorem exec_tripClear_of_accepts (s : State) (taken : s.accepts) :
    exec .tripClear s = .next (
      if s.prot.trip = false then State.answer 0x74 promptBound (.plain .done) s
      else if s.clearRefused = true then State.answer 0x74 promptBound (.plain .state) s
      else State.answer 0x74 promptBound (.plain .done)
        { s with prot := { s.prot with trip := false }, gov := { s.gov with reseed := true } }) := by
  obtain ⟨awake, ready⟩ := taken
  have row : exec .tripClear s = execTripClear s := rfl
  rw [row, execTripClear, command_of_accepts _ _ _ s awake ready]
  cases trip : s.prot.trip with
  | false => simp
  | true => cases refused : s.clearRefused <;> simp

/-- Settles O43: outside a trip nothing changes; in a trip R170's two refusals decide between STATE and the end of the trip. -/
theorem tripClearEndsTheTrip : Obligations.TripClearEndsTheTrip := by
  intro s taken
  rw [exec_tripClear_of_accepts s taken]
  refine ⟨?noTrip, ?acquiring, ?tooFast, ?clears⟩
  case noTrip =>
    intro noTrip
    rw [if_pos noTrip, promptBound]
  case acquiring =>
    intro trip acquiring
    have refused := s.clearRefused_iff.mpr (.inl acquiring)
    simp [trip, refused, promptBound]
  case tooFast =>
    intro f trip tracking last fast
    have refused := s.clearRefused_iff.mpr (.inr ⟨tracking, f, last, fast⟩)
    simp [trip, refused, promptBound]
  case clears =>
    intro f trip slow
    have granted : ¬ s.clearRefused = true := by
      rw [s.clearRefused_iff]
      rcases slow with lost | ⟨tracking, last, below⟩
      · simp [lost]
      · simp [tracking, last, below]
    simp [trip, granted, promptBound]

end Sys2Proof.Machine

/-! ## Proofs: what each operation keeps -/

namespace Sys2Proof.Machine

/-! ### Blanked states: what an operation keeps, said in one equation -/

/-- Blank the station table and the fourteen attention flags. -/
def State.exceptTable (s : State) : State :=
  { s with table := Vector.replicate 64 Record.vacant, attn := s.attn &&& ~~~attnMask }

/-- Blank the line engine. -/
def State.exceptEngine (s : State) : State := { s with engine := Engine.atReset }

/-- Blank the water plan. -/
def State.exceptWater (s : State) : State := { s with water := Water.atReset }

/-- A block that a blanking leaves is the same where the blanked states are. -/
theorem block_of_blank {α : Type} (block : State → α) (blank : State → State) (left : ∀ s, block (blank s) = block s)
    {s u : State} (h : blank u = blank s) : block u = block s := by
  rw [← left u, h, left]

theorem Attn.bit_beyondMask (a : Attn) : a.bit &&& ~~~attnMask = 0 := by cases a <;> decide

theorem or_bit_beyondMask (x : Half) (a : Attn) : (x ||| a.bit) &&& ~~~attnMask = x &&& ~~~attnMask := by
  have none := a.bit_beyondMask
  ext i hi
  have := congrArg (fun w : Half => w[i]) none
  simp at this ⊢
  grind

@[simp] theorem State.raise_exceptTable (a : Attn) (s : State) : (s.raise a).exceptTable = s.exceptTable := by
  simp [State.exceptTable, State.raise, or_bit_beyondMask]

@[simp] theorem State.raiseIf_exceptTable (c : Bool) (a : Attn) (s : State) :
    (s.raiseIf c a).exceptTable = s.exceptTable := by
  cases c <;> simp [State.raiseIf]

/-! #### Records and errands -/

@[simp] theorem setRecord_exceptTable (n : Slot) (r : Record) (s : State) : (s.setRecord n r).exceptTable = s.exceptTable := rfl

@[simp] theorem setStation_exceptTable (n : Slot) (st : Station) (s : State) :
    (s.setStation n st).exceptTable = s.exceptTable := rfl

@[simp] theorem setService_exceptTable (n : Slot) (st : Station) (sv : Service) (s : State) :
    (s.setService n st sv).exceptTable = s.exceptTable := rfl

@[simp] theorem withEngine_exceptEngine (f : Engine → Engine) (s : State) : (s.withEngine f).exceptTable.exceptEngine = s.exceptTable.exceptEngine := rfl

@[simp] theorem markChanged_exceptTable (n : Slot) (s : State) : (s.markChanged n).exceptTable = s.exceptTable := by
  unfold State.markChanged
  split <;> simp

@[simp] theorem setMute_exceptTable (n : Slot) (m : MuteErrand) (s : State) : (s.setMute n m).exceptTable = s.exceptTable := by
  unfold State.setMute
  split <;> simp

@[simp] theorem placeMute_exceptEngine (x : Serial) (s : State) : (s.placeMute x).exceptTable.exceptEngine = s.exceptTable.exceptEngine := by
  unfold State.placeMute
  split <;> simp

@[simp] theorem placeWantedMute_exceptEngine (n : Slot) (s : State) : (s.placeWantedMute n).exceptTable.exceptEngine = s.exceptTable.exceptEngine := by
  unfold State.placeWantedMute
  split
  · rfl
  · split_ifs <;> simp

@[simp] theorem wantMute_exceptEngine (n : Slot) (s : State) : (s.wantMute n).exceptTable.exceptEngine = s.exceptTable.exceptEngine := by
  simp [State.wantMute]

@[simp] theorem placeFreed_exceptEngine (s : State) : s.placeFreed.exceptTable.exceptEngine = s.exceptTable.exceptEngine := by
  unfold State.placeFreed
  split <;> simp

@[simp] theorem readyTest_exceptEngine (n : Slot) (s : State) : (s.readyTest n).exceptTable.exceptEngine = s.exceptTable.exceptEngine := by
  unfold State.readyTest
  split
  · split <;> simp
  · rfl

@[simp] theorem shedRequest_exceptTable (freq : Bool) (n : Slot) (s : State) :
    (s.shedRequest freq n).exceptTable = s.exceptTable := by
  unfold State.shedRequest
  split
  · split <;> simp
  · rfl

@[simp] theorem reclose_exceptTable (n : Slot) (s : State) : (s.reclose n).exceptTable = s.exceptTable := by
  unfold State.reclose
  split
  · split <;> simp
  · rfl

@[simp] theorem frequencyRestore_exceptTable (admitted : Bool) (n : Slot) (s : State) :
    (s.frequencyRestore admitted n).exceptTable = s.exceptTable := by
  unfold State.frequencyRestore
  split
  · split
    · simp
    · split <;> simp
    · rfl
  · rfl

@[simp] theorem capacityRestore_exceptTable (n : Slot) (s : State) : (s.capacityRestore n).exceptTable = s.exceptTable := by
  unfold State.capacityRestore
  split
  · split <;> simp
  · rfl

@[simp] theorem linkAnswered_exceptTable (n : Slot) (s : State) : (s.linkAnswered n).exceptTable = s.exceptTable := by
  unfold State.linkAnswered
  split
  · split_ifs <;> simp
  · rfl

@[simp] theorem tripIndication_exceptTable (n : Slot) (r : TripReason) (s : State) :
    (s.tripIndication n r).exceptTable = s.exceptTable := by
  unfold State.tripIndication
  split
  · split <;> simp
  · rfl

@[simp] theorem acknowledge_exceptTable (n : Slot) (a : Settings) (d : Nat) (s : State) :
    (s.acknowledge n a d).exceptTable = s.exceptTable := by
  unfold State.acknowledge
  split <;> simp

@[simp] theorem serviceReport_exceptEngine (n : Slot) (a : Settings) (d : Nat) (trip : Option TripReason) (s : State) :
    (s.serviceReport n a d trip).exceptTable.exceptEngine = s.exceptTable.exceptEngine := by
  unfold State.serviceReport
  split
  · rfl
  · cases trip <;> simp

@[simp] theorem deferPush_exceptTable (n : Slot) (s : State) : (s.deferPush n).exceptTable = s.exceptTable := by
  unfold State.deferPush
  split <;> simp

@[simp] theorem silenceLimit_exceptTable (n : Slot) (s : State) : (s.silenceLimit n).exceptTable = s.exceptTable := by
  unfold State.silenceLimit
  split
  · split <;> simp
  · rfl

@[simp] theorem recloseDue_exceptTable (n : Slot) (s : State) : (s.recloseDue n).exceptTable = s.exceptTable := by
  unfold State.recloseDue
  split
  · split <;> simp
  · rfl

@[simp] theorem liveLimit_exceptTable (n : Slot) (s : State) : (s.liveLimit n).exceptTable = s.exceptTable := by
  unfold State.liveLimit
  split
  · split <;> simp
  · rfl

@[simp] theorem retire_exceptEngine (n : Slot) (st : Station) (s : State) : (s.retire n st).exceptTable.exceptEngine = s.exceptTable.exceptEngine := by
  unfold State.retire
  split <;> simp

/-- A fold over slots keeps what its every step keeps. -/
theorem foldl_keeps {α β : Type} (b : State → β) (f : State → α → State) (l : List α) (s : State)
    (step : ∀ t x, b (f t x) = b t) : b (l.foldl f s) = b s := by
  induction l generalizing s with
  | nil => rfl
  | cons x l ih => rw [List.foldl_cons, ih, step]

@[simp] theorem unqueueMutes_exceptTable (s : State) : s.unqueueMutes.exceptTable = s.exceptTable := by
  unfold State.unqueueMutes
  refine foldl_keeps _ _ _ _ fun t n => ?_
  split
  · split <;> simp
  · rfl

@[simp] theorem placeAllWanted_exceptEngine (s : State) : s.placeAllWanted.exceptTable.exceptEngine = s.exceptTable.exceptEngine := by
  unfold State.placeAllWanted
  refine foldl_keeps (fun u => u.exceptTable.exceptEngine) _ _ _ fun t n => ?_
  split
  · split <;> simp
  · rfl

@[simp] theorem completeStop_exceptEngine (s : State) :
    s.completeStop.exceptTable.exceptEngine = s.exceptTable.exceptEngine := by
  rw [State.completeStop, placeAllWanted_exceptEngine, withEngine_exceptEngine, unqueueMutes_exceptTable]

@[simp] theorem dropStale_exceptEngine (k : Nat) (s : State) : (s.dropStale k).exceptTable.exceptEngine = s.exceptTable.exceptEngine := by
  induction k generalizing s with
  | zero => rfl
  | succ k ih =>
    unfold State.dropStale
    split
    · split
      · rfl
      · rw [ih, placeFreed_exceptEngine]; rfl
    · rfl
    · rfl

@[simp] theorem abandon_exceptEngine (x : Serial) (n : Slot) (s : State) : (s.abandon x n).exceptTable.exceptEngine = s.exceptTable.exceptEngine := by
  simp [State.abandon]

@[simp] theorem abandonSerial_exceptEngine (x : Serial) (s : State) : (s.abandonSerial x).exceptTable.exceptEngine = s.exceptTable.exceptEngine := by
  unfold State.abandonSerial
  split <;> simp

@[simp] theorem assignMissed_exceptEngine (x : Serial) (n : Slot) (s : State) :
    (s.assignMissed x n).exceptTable.exceptEngine = s.exceptTable.exceptEngine := by
  unfold State.assignMissed
  split
  · split <;> simp
  · rfl

@[simp] theorem pushPrefixes_exceptEngine (p : Prefix) (l : List Prefix) (s : State) :
    (s.pushPrefixes p l).exceptTable.exceptEngine = s.exceptTable.exceptEngine := by
  unfold State.pushPrefixes
  split <;> simp

@[simp] theorem splitPrefix_exceptEngine (p : Prefix) (s : State) : (s.splitPrefix p).exceptTable.exceptEngine = s.exceptTable.exceptEngine := by
  unfold State.splitPrefix
  split <;> simp

@[simp] theorem withCounts_exceptEngine (f : EnrolCounts → EnrolCounts) (s : State) :
    (s.withCounts f).exceptTable.exceptEngine = s.exceptTable.exceptEngine := rfl

@[simp] theorem cleanSerial_exceptEngine (p : Prefix) (x : Serial) (s : State) :
    (s.cleanSerial p x).exceptTable.exceptEngine = s.exceptTable.exceptEngine := by
  unfold State.cleanSerial
  dsimp only
  split
  · split
    · rfl
    · split_ifs <;> simp
  · split_ifs <;> simp

@[simp] theorem rollClass_exceptEngine (p : Prefix) (c : RollClass) (s : State) :
    (s.rollClass p c).exceptTable.exceptEngine = s.exceptTable.exceptEngine := by
  cases c with
  | silence => rfl
  | clean x => simp [State.rollClass]
  | collision => simp only [State.rollClass]; split <;> simp

@[simp] theorem endIfDone_exceptEngine (s : State) : s.endIfDone.exceptTable.exceptEngine = s.exceptTable.exceptEngine := by
  unfold State.endIfDone
  split
  · split <;> simp
  · rfl
  · rfl

@[simp] theorem autoEnrol_exceptEngine (s : State) : s.autoEnrol.exceptTable.exceptEngine = s.exceptTable.exceptEngine := by
  unfold State.autoEnrol
  split <;> simp

@[simp] theorem pruneHold_exceptEngine (before owner s : State) :
    (State.pruneHold before owner s).exceptTable.exceptEngine = s.exceptTable.exceptEngine := rfl

/-! #### Replies -/

/-- The water plan is outside what an operation on a reply keeps. -/
@[simp] theorem water_exceptWater (w : Water) (s : State) :
    { s with water := w }.exceptTable.exceptEngine.exceptWater = s.exceptTable.exceptEngine.exceptWater := rfl

@[simp] theorem vacate_exceptWater (n : Slot) (s : State) :
    (s.vacate n).exceptTable.exceptWater = s.exceptTable.exceptWater := by
  unfold State.vacate
  split
  · rfl
  · dsimp only
    split <;> rfl

@[simp] theorem muteSent_exceptWater (x : Serial) (s : State) :
    (s.muteSent x).exceptTable.exceptWater = s.exceptTable.exceptWater := by
  unfold State.muteSent
  split
  · split
    · split <;> simp
    · rfl
  · rfl

@[simp] theorem makeSilent_exceptWater (n : Slot) (s : State) :
    (s.makeSilent n).exceptTable.exceptWater = s.exceptTable.exceptWater := by
  unfold State.makeSilent
  split
  · dsimp only
    split
    · simp
    · exact (congrArg State.exceptWater (markChanged_exceptTable n _)).trans (by simp)
  · rfl

@[simp] theorem linkSilent_exceptWater (n : Slot) (s : State) :
    (s.linkSilent n).exceptTable.exceptWater = s.exceptTable.exceptWater := by
  unfold State.linkSilent
  split
  · split <;> simp
  · rfl

@[simp] theorem missedReply_exceptWater (n : Slot) (order : Bool) (s : State) :
    (s.missedReply n order).exceptTable.exceptWater = s.exceptTable.exceptWater := by
  unfold State.missedReply
  split
  · split
    · dsimp only
      split_ifs <;> simp
    · rfl
  · rfl

/-- What is kept beside the water plan is kept beside the engine and the water plan. -/
theorem exceptEngineWater_of_exceptWater {s u : State} (h : u.exceptTable.exceptWater = s.exceptTable.exceptWater) :
    u.exceptTable.exceptEngine.exceptWater = s.exceptTable.exceptEngine.exceptWater := congrArg State.exceptEngine h

@[simp] theorem report_exceptWater (n : Slot) (c : Content) (s : State) :
    (s.report n c).exceptTable.exceptEngine.exceptWater = s.exceptTable.exceptEngine.exceptWater := by
  cases c with
  | service a d trip => simp [State.report]
  | gauge l =>
    simp only [State.report, State.gaugeReport]
    split
    · split <;> simp
    · rfl

@[simp] theorem enrol_exceptWater (n : Slot) (st : Station) (c : Content) (s : State) :
    (s.enrol n st c).exceptTable.exceptWater = s.exceptTable.exceptWater := by
  unfold State.enrol
  split
  · dsimp only
    split_ifs <;> simp
  · exact (congrArg State.exceptWater (markChanged_exceptTable n _)).trans (by simp)
  · rfl

@[simp] theorem takeReply_exceptWater (x : Serial) (n : Slot) (c : Content) (s : State) :
    (s.takeReply x n c).exceptTable.exceptEngine.exceptWater = s.exceptTable.exceptEngine.exceptWater := by
  unfold State.takeReply
  split
  · split
    · split
      · exact exceptEngineWater_of_exceptWater (enrol_exceptWater n _ c s)
      · simp
      · simp
    · simp
  · simp

@[simp] theorem assignTaken_exceptWater (x : Serial) (n : Slot) (c : Content) (s : State) :
    (s.assignTaken x n c).exceptTable.exceptEngine.exceptWater = s.exceptTable.exceptEngine.exceptWater := by
  unfold State.assignTaken
  split <;> simp

/-- The outcome of a turn changes the table, the engine, the water plan and flags alone. -/
@[simp] theorem outcome_exceptWater (t : Turn) (h : Heard) (s : State) :
    (s.outcome t h).exceptTable.exceptEngine.exceptWater = s.exceptTable.exceptEngine.exceptWater := by
  have missed := fun n order => exceptEngineWater_of_exceptWater (missedReply_exceptWater n order s)
  unfold State.outcome
  split
  · split
    · simp
    · exact missed _ _
  · split
    · dsimp only
      split <;> simp
    · exact missed _ _
  · split <;> simp
  · simp
  all_goals rfl

@[simp] theorem handOutcome_exceptWater (h : Heard) (s : State) :
    (s.handOutcome h).exceptTable.exceptEngine.exceptWater = s.exceptTable.exceptEngine.exceptWater := by
  unfold State.handOutcome
  split
  · split <;> simp
  · rfl

/-! #### What follows within an event -/

/-- Blank the account. -/
def State.exceptAccount (s : State) : State := { s with account := Account.atReset }

/-- Blank the saw. -/
def State.exceptSaw (s : State) : State := { s with saw := Saw.atReset }

/-- Blank the line port. -/
def State.exceptPort (s : State) : State := { s with port := LinePort.atReset }

/-- Blank the gate. -/
def State.exceptGate (s : State) : State := { s with gate := Gate.atReset }

@[simp] theorem sawShedOrder_exceptSaw (s : State) :
    s.sawShedOrder.exceptTable.exceptSaw = s.exceptTable.exceptSaw := by
  unfold State.sawShedOrder
  split
  · rw [State.raise_exceptTable]; rfl
  · rfl

/-- R109: one record in a pass over class c. -/
def State.curtailRecord (c : Nat) (s : State) (n : Slot) : State :=
  match s.onLineService n with
  | some (_, sv) => if curtailed c sv then s.shedRequest false n else s
  | none => s

/-- R109: class c is shed record by record, and then the saw with it. -/
theorem curtailClass_eq (c : Nat) (s : State) :
    s.curtailClass c =
      if (slots.foldl (State.curtailRecord c) s).saw.cls = c then (slots.foldl (State.curtailRecord c) s).sawShedOrder
      else slots.foldl (State.curtailRecord c) s := by
  have record : (fun (t : State) (n : Slot) =>
      match t.onLineService n with
      | some (_, sv) => if curtailed c sv then t.shedRequest false n else t
      | none => t) = State.curtailRecord c := rfl
  unfold State.curtailClass
  generalize slots = all
  rewrite [← record]
  rfl

@[simp] theorem curtailRecord_exceptTable (c : Nat) (s : State) (n : Slot) :
    (s.curtailRecord c n).exceptTable = s.exceptTable := by
  unfold State.curtailRecord
  split
  · split <;> simp
  · rfl

@[simp] theorem curtailRecords_exceptTable (c : Nat) (l : List Slot) (s : State) :
    (l.foldl (State.curtailRecord c) s).exceptTable = s.exceptTable :=
  foldl_keeps _ _ _ _ fun t n => curtailRecord_exceptTable c t n

@[simp] theorem curtailClass_exceptSaw (c : Nat) (s : State) :
    (s.curtailClass c).exceptTable.exceptSaw = s.exceptTable.exceptSaw := by
  rw [curtailClass_eq]
  split <;> simp

@[simp] theorem markUnresolvable_exceptAccount (s : State) :
    s.markUnresolvable.exceptTable.exceptAccount = s.exceptTable.exceptAccount := by
  unfold State.markUnresolvable
  split
  · rfl
  · rw [State.raise_exceptTable]; rfl

@[simp] theorem curtailClasses_exceptSaw (s : State) :
    ([3, 2, 1].foldl (fun t c => if t.short then t.curtailClass c else t) s).exceptTable.exceptSaw =
      s.exceptTable.exceptSaw := by
  refine foldl_keeps (fun s => s.exceptTable.exceptSaw) _ _ _ fun t c => ?_
  split <;> simp

@[simp] theorem curtail_exceptAccount (s : State) :
    s.curtail.exceptTable.exceptSaw.exceptAccount = s.exceptTable.exceptSaw.exceptAccount := by
  have classes := congrArg State.exceptAccount (curtailClasses_exceptSaw s)
  unfold State.curtail
  dsimp only
  split
  · exact (congrArg State.exceptSaw (markUnresolvable_exceptAccount _)).trans classes
  · exact classes

@[simp] theorem toBalanced_exceptAccount (s : State) :
    s.toBalanced.exceptTable.exceptAccount = s.exceptTable.exceptAccount := rfl

@[simp] theorem enterOver_exceptAccount (s : State) :
    s.enterOver.exceptTable.exceptSaw.exceptAccount = s.exceptTable.exceptSaw.exceptAccount := by
  rw [State.enterOver, curtail_exceptAccount, State.raise_exceptTable]; rfl

/-- The account's pass changes the table, the account, the saw and flags alone. -/
@[simp] theorem rederive_exceptAccount (s : State) :
    s.rederive.exceptTable.exceptSaw.exceptAccount = s.exceptTable.exceptSaw.exceptAccount := by
  have balanced := fun t : State => congrArg State.exceptSaw (toBalanced_exceptAccount t)
  unfold State.rederive
  split_ifs
  · rfl
  · dsimp only
    split
    · exact enterOver_exceptAccount s
    · exact (balanced _).trans (enterOver_exceptAccount s)
  · exact balanced s
  · rfl

@[simp] theorem completeApply_exceptAccount (a : Apply) (s : State) :
    (s.completeApply a).exceptTable.exceptAccount = s.exceptTable.exceptAccount := by
  rw [State.completeApply, State.raise_exceptTable]; rfl

@[simp] theorem applyDone_exceptAccount (s : State) : s.applyDone.exceptTable.exceptAccount = s.exceptTable.exceptAccount := by
  unfold State.applyDone
  split
  · split <;> simp
  · rfl

@[simp] theorem examineApply_exceptAccount (s : State) :
    s.examineApply.exceptTable.exceptAccount = s.exceptTable.exceptAccount := by
  unfold State.examineApply
  split
  · rw [applyDone_exceptAccount]; rfl
  · rfl

@[simp] theorem hand_exceptPort (roll : Bool) (m : Message) (s : State) :
    (s.hand roll m).exceptTable.exceptEngine.exceptPort = s.exceptTable.exceptEngine.exceptPort := rfl

@[simp] theorem chooseRollOrPoll_exceptPort (s : State) :
    s.chooseRollOrPoll.exceptTable.exceptEngine.exceptPort = s.exceptTable.exceptEngine.exceptPort := by
  unfold State.chooseRollOrPoll
  split
  · rfl
  · split <;> rfl

@[simp] theorem choosePush_exceptPort (s : State) :
    s.choosePush.exceptTable.exceptEngine.exceptPort = s.exceptTable.exceptEngine.exceptPort := by
  unfold State.choosePush
  split
  · split <;> simp
  · simp

@[simp] theorem chooseErrand_exceptPort (s : State) :
    s.chooseErrand.exceptTable.exceptEngine.exceptPort = s.exceptTable.exceptEngine.exceptPort := by
  have dropped := congrArg State.exceptPort (dropStale_exceptEngine s.engine.errands.length s)
  unfold State.chooseErrand
  dsimp only
  split
  · rw [placeFreed_exceptEngine, hand_exceptPort]; exact dropped
  · rw [hand_exceptPort]; exact dropped
  · rw [choosePush_exceptPort]; exact dropped

/-- R141: what the choice of a turn does: nothing, a LINE CLEAR, the oldest shed entry, or what comes after those. -/
theorem State.chooseTurn_cases (s : State) :
    s.chooseTurn = s ∨ (s.port.phase = .idle ∧ s.engine.stopping = false ∧
      (s.chooseTurn = s.hand false .lineClear ∨
        (∃ e rest, s.engine.sheds = e :: rest ∧ s.chooseTurn =
          State.hand false (.shed e.cls e.amount) { s with engine := { s.engine with sheds := rest } }) ∨
        s.chooseTurn = s.chooseErrand)) := by
  unfold State.chooseTurn State.chooseShed
  split
  case isFalse => exact .inl rfl
  case isTrue idle =>
    cases sheds : s.engine.sheds with
    | nil => cases s.engine.state <;> cases s.engine.fresh <;> simp [idle]
    | cons e rest => cases s.engine.state <;> cases s.engine.fresh <;> simp [idle]

/-- The choice of a turn changes the table, the engine and the port alone. -/
@[simp] theorem chooseTurn_exceptPort (s : State) :
    s.chooseTurn.exceptTable.exceptEngine.exceptPort = s.exceptTable.exceptEngine.exceptPort := by
  rcases s.chooseTurn_cases with same | ⟨-, -, clear | ⟨e, rest, -, shed⟩ | errand⟩
  · rw [same]
  · rw [clear, hand_exceptPort]
  · rw [shed, hand_exceptPort]; rfl
  · rw [errand, chooseErrand_exceptPort]

@[simp] theorem ceilingChange_exceptGate (before s : State) :
    (State.ceilingChange before s).exceptGate = s.exceptGate := by
  unfold State.ceilingChange
  split <;> rfl

@[simp] theorem levelEvent_exceptTable (before s : State) :
    (State.levelEvent before s).exceptTable = s.exceptTable := by
  simp [State.levelEvent]

/-- What an event's end keeps: the measurement, the governor, the water plan, the protection unit, the command port and the
queue. -/
def State.ownerBlocks (s : State) : State := s.exceptTable.exceptEngine.exceptPort.exceptSaw.exceptAccount.exceptGate

@[simp] theorem settle_ownerBlocks (before s : State) : (State.settle before s).ownerBlocks = s.ownerBlocks := by
  have turn := fun t : State => congrArg (fun u : State => u.exceptSaw.exceptAccount.exceptGate) (chooseTurn_exceptPort t)
  have enrolled := fun t : State => congrArg (fun u : State => u.exceptPort.exceptSaw.exceptAccount.exceptGate)
    (autoEnrol_exceptEngine t)
  have apply := fun t : State => congrArg (fun u : State => u.exceptEngine.exceptPort.exceptSaw.exceptGate)
    (examineApply_exceptAccount t)
  have pass := fun t : State => congrArg (fun u : State => u.exceptEngine.exceptPort.exceptGate) (rederive_exceptAccount t)
  have ceiling := fun t : State => congrArg (fun u : State => u.exceptTable.exceptEngine.exceptPort.exceptSaw.exceptAccount)
    (ceilingChange_exceptGate before t)
  have level := congrArg (fun u : State => u.exceptEngine.exceptPort.exceptSaw.exceptAccount.exceptGate)
    (levelEvent_exceptTable before s)
  calc (State.settle before s).ownerBlocks
      = _ := turn _
    _ = _ := enrolled _
    _ = _ := apply _
    _ = _ := pass _
    _ = _ := ceiling _
    _ = _ := level

end Sys2Proof.Machine

/-! ## Proofs: what a step can do -/

namespace Sys2Proof.Machine

/-! ### What a step can do -/

/-- The parts of a record, a turn, an errand or the account after which nothing follows. -/
inductive BareLinePart (s : State) : State → Prop
  | edit (n : Slot) (st : Station) (sv : Service) (p : Staged) (here : s.station n = some st)
      (service : st.service = some sv) (limit : p.limit ≤ 2000) (cls : p.cls ≤ 3) :
      BareLinePart s (s.setService n st { sv with staged := some p })
  | recloseDue (n : Slot) : BareLinePart s (s.recloseDue n)
  | liveLimit (n : Slot) : BareLinePart s (s.liveLimit n)
  | unmark (n : Slot) : BareLinePart s (s.setRecord n { s.record n with changed := false })
  | applyDone : BareLinePart s s.applyDone
  | turn : BareLinePart s s.chooseTurn
  | dropStray (x : Serial) : BareLinePart s (s.withEngine (Engine.dropStray x))
  | startBit (char : Byte) (bad : Bool) : BareLinePart s { s with port := s.port.startBit char bad }

/-- The parts of the ballast governor's own rows and commands. -/
inductive GovernorPart (s : State) : State → Prop
  | bankFailedOpen (k : BankNo) : GovernorPart s (s.bankFailedOpen k)
  | bankFailedStuck (k : BankNo) : GovernorPart s (s.bankFailedStuck k)
  | checkExhausted : GovernorPart s s.checkExhausted
  | bankDisable (k : BankNo) : GovernorPart s { s with gov := (s.gov.disable k).1 }
  | bankEnable (k : BankNo) : GovernorPart s { s with gov := (s.gov.enable s.prot.trip k).1 }
  | bankReturn (k : BankNo) : GovernorPart s { s with gov := (s.gov.restoreBank s.prot.trip k).1 }
  | bankCheck (k : BankNo) : GovernorPart s { s with gov := (s.gov.startCheck s.prot.trip k).1 }
  | bankRatings (r : Vector Half 8) : GovernorPart s { s with gov := (s.gov.setRatings s.prot.lock s.prot.trip r).1 }
  | gains (kp ki : Nat) (p : kp ≤ 4095) (i : ki ≤ 4095) : GovernorPart s { s with gov := { s.gov with kp := kp, ki := ki } }

/-- The parts of the guide vane positioner's own rows and commands. -/
inductive GatePart (s : State) : State → Prop
  | pulse : GatePart s { s with gate := s.gate.pulse }
  | endSwitch (sw : EndSwitch) (active : Bool) : GatePart s (s.endSwitch sw active)
  | pauseOver : GatePart s { s with gate := s.gate.pauseOver }
  | jam : GatePart s s.jamExpiry
  | trim : GatePart s s.trimDecision
  | retry : GatePart s { s with gate := s.gate.rest }
  | gateSet (t : Nat) (free : s.prot.trip = false) :
      GatePart s { s with gate := s.gate.setTarget (min t s.water.ceiling) }
  | calibrate (v : Nat) (range : v ≤ 1000) : GatePart s { s with gate := (s.gate.fixAt v).decide }
  | trimSet (float deadband : Nat) (least : 10 ≤ deadband) (most : deadband ≤ 500) :
      GatePart s { s with gate := { s.gate with float := float, deadband := deadband } }

/-- The owner's part of an event after which nothing follows, from a state to a state (R181 and logs 6 to 9: nothing of it
reaches the account, the push hold set or the choice of a turn). -/
inductive BarePart (s : State) : State → Prop
  | nothing : BarePart s s
  | line {u : State} (part : BareLinePart s u) : BarePart s u
  | governor {u : State} (part : GovernorPart s u) : BarePart s u
  | gate {u : State} (part : GatePart s u) : BarePart s u
  | measured (f : Fmu) (sound : s.fmuSound → { s with fmu := f }.fmuSound) : BarePart s { s with fmu := f }
  | silence : BarePart s s.silenceOver
  | raw (level : Bool) : BarePart s { s with saw := s.saw.setRaw level }
  | stuck : BarePart s s.stuckOver
  | wait (d : Nat) (idle : s.saw.state = .idle) (least : 100 ≤ d) (most : d ≤ 4000) :
      BarePart s { s with saw := s.saw.wait d }
  | sawSet (nominal cls : Nat) (least : 100 ≤ nominal) (most : nominal ≤ 4000) (low : 1 ≤ cls) (high : cls ≤ 3) :
      BarePart s { s with saw := { s.saw with nominal := nominal, cls := cls } }
  | intervalOver : BarePart s { s with prot := { s.prot with interval := none } }
  | settledOver : BarePart s { s with prot := s.prot.settledOver }
  | tripClear : BarePart s { s with prot := { s.prot with trip := false }, gov := { s.gov with reseed := true } }
  | protSet (fset tripOffset ufOffset : Half) (interval : Byte) (range : protInRange tripOffset ufOffset interval = true) :
      BarePart s { s with
        gov := { s.gov with offset := s.offsetOf fset }
        prot := { s.prot with
          tripOffset := tripOffset.toNat, ufOffset := ufOffset.toNat, shedInterval := interval.toNat } }
  | lock : BarePart s { s with prot := { s.prot with lock := true } }
  | auto (on : Bool) : BarePart s { s with prot := { s.prot with auto := on } }
  | clearAttn (mask : Half) : BarePart s (s.clearAttn mask)

/-- The parts of a record, a turn, an errand, the account or the water plan that `State.settle` follows. -/
inductive LinePart (s : State) : State → Prop
  | nothing : LinePart s s
  | provision (n : Slot) (kind : Kind) (x : Serial) (cls limit : Nat) (connect : Bool) (vacant : s.station n = none)
      (fresh : s.duplicates kind x = false) (room : s.engine.claimFull x = false) (clsRange : cls ≤ 3)
      (limitRange : limit ≤ 2000) : LinePart s (s.provision n kind x cls limit connect)
  | close (n : Slot) (st : Station) (sv : Service) (here : s.enrolledService n = some (st, sv))
      (limit : Config.leastLimit ≤ sv.limit) : LinePart s (s.setService n st { sv with condition := .connected })
  | release (n : Slot) (st : Station) (sv : Service) (here : s.enrolledService n = some (st, sv))
      (limit : Config.leastLimit ≤ sv.limit) :
      LinePart s (s.setService n st { sv with condition := .connected, tripCount := false })
  | opened (n : Slot) (st : Station) (sv : Service) (here : s.onLineService n = some (st, sv)) :
      LinePart s (s.setService n st { sv with condition := .off })
  | vacate (n : Slot) : LinePart s (s.vacate n)
  | retire (n : Slot) (st : Station) (here : s.station n = some st) : LinePart s (s.retire n st)
  | linkSilent (n : Slot) : LinePart s (s.linkSilent n)
  | silenceLimit (n : Slot) : LinePart s (s.silenceLimit n)
  | apply (scope : Byte) (sc : Scope) (free : s.account.apply = none) : LinePart s (s.startApply scope sc).1
  | reserve (r : Nat) : LinePart s (s.setReserve r)
  | transmissionOver : LinePart s s.transmissionOver
  | windowOver : LinePart s s.windowOver
  | replyOver : LinePart s s.replyOver
  | replyTooLong : LinePart s s.replyTooLong
  | turnOver : LinePart s s.turnOver
  | lineStart : LinePart s (s.withEngine fun e => { e.restart with state := .running })
  | lineState (state : EngineState) : LinePart s (s.withEngine fun e => { e with state := state })
  | lineStop : LinePart s s.stopLine
  | stopCompletes (stopping : s.engine.stopping = true) (idle : s.port.phase = .idle) : LinePart s s.completeStop
  | abandon (x : Serial) : LinePart s (s.abandonSerial x)
  | enrolStart : LinePart s (s.withEngine (Engine.beginEnrolment .byHost))
  | enrolStop : LinePart s (s.withEngine Engine.stopEnrol)
  | autoEnrol : LinePart s s.autoEnrol
  | rejoinOver : LinePart s (s.withEngine fun e => { e with rejoin := none })
  | planLoad (bands : List Band) (range : planInRange bands = true) : LinePart s (s.loadPlan bands)
  | holdOver : LinePart s { s with water := s.water.holdOver }

/-- The owner's part of an event that `State.settle` follows. -/
inductive SettledPart (s : State) : State → Prop
  | line {u : State} (part : LinePart s u) : SettledPart s u
  | complete (sense : BitVec 8) (c : Completion) (least : 40000 ≤ c.f) (most : c.f ≤ 70000) :
      SettledPart s (s.complete sense c)
  | slowPeriod : SettledPart s s.slowPeriod
  | restoreTick : SettledPart s s.restoreTick
  | debounceOver : SettledPart s s.debounceOver
  | waitingOver : SettledPart s s.waitingOver
  | preparingOver : SettledPart s s.preparingOver
  | idleOver : SettledPart s s.idleOver
  | sawGrant (d : Nat) (idle : s.saw.state = .idle) (least : 100 ≤ d) (most : d ≤ 4000) :
      SettledPart s { s with saw := s.saw.grant d }
  | sawStop : SettledPart s { s with saw := s.saw.withdraw }
  | shedStep : SettledPart s s.shedStep
  | supplyReset : SettledPart s s.supplyReset

/-- An event outside a reset: a part after which nothing follows, or one settled, the end of a measured window settled too, or
the beginning of a power-on or pin reset. -/
inductive Event (s : State) : State → Prop
  | bare {u : State} (part : BarePart s u) : Event s u
  | settled {u : State} (part : SettledPart s u) : Event s (State.settle s u)
  | window {f : Fmu} {u : State} (sound : s.fmuSound → { s with fmu := f }.fmuSound)
      (part : SettledPart { s with fmu := f } u) : Event s (State.settle { s with fmu := f } u)
  | powerOn : Event s s.powerOnReset
  | pin : Event s s.pinReset

/-- A row's event, but for the command port and the count of free choices. -/
def Moves (s t : State) : Prop := ∃ u h n, Event s u ∧ t = { u with host := h, choices := n }

theorem Moves.of_event {s u : State} (e : Event s u) : Moves s u := ⟨u, u.host, u.choices, e, rfl⟩

theorem Moves.refl (s : State) : Moves s s := .of_event (.bare .nothing)

theorem moves_live {f : State → State} {s t : State} (awake : s.awake) (h : live f s = .next t) (e : Moves s (f s)) :
    Moves s t := by
  rw [live_of_awake f s awake] at h
  cases h
  exact e

theorem moves_expiry {row : Instr} {f : State → State} {s t : State} (awake : s.awake) (h : expiry row f s = .next t)
    (e : Moves s (f s)) : Moves s t := by
  refine moves_live awake h ?_
  split
  · exact .refl s
  · exact e

theorem moves_command {code : Byte} {bound : Nat} {f : State → State × Reply} {s t : State} (awake : s.awake)
    (h : command code bound f s = .next t) (e : Event s (f s).1) : Moves s t := by
  refine moves_live awake h ?_
  split
  · exact ⟨s, _, _, .bare .nothing, rfl⟩
  · exact ⟨_, _, _, e, rfl⟩

/-! #### The measurement -/

theorem carriedFrequency_range (w : Nat) : 40000 ≤ carriedFrequency w ∧ carriedFrequency w ≤ 70000 :=
  clampNat_bounds _ _ _ (by decide)

theorem crossing_event (sense : BitVec 8) (s : State) (awake : s.awake) : Event s (s.crossing sense) := by
  have clear : s.resetting.isSome = false := by rw [awake]; rfl
  unfold State.crossing
  dsimp only
  split
  · refine .bare (.measured _ fun ⟨_, _, _, _, last, _, _⟩ => ?_)
    simp_all [State.fmuSound]
  · refine .bare (.measured _ fun ⟨tracked, _, long, each, last, _, _⟩ => ?_)
    simp_all [State.fmuSound]
  · next r here unlost =>
    unfold State.measure
    split
    · refine .bare (.measured _ fun ⟨tracked, _, long, each, last, _, _⟩ => ?_)
      simp_all [State.fmuSound]
    · next accepted =>
      have period : 6000 ≤ periodOf s.fmu.timebase r ∧ periodOf s.fmu.timebase r ≤ 33333 := by
        unfold classify at accepted
        split_ifs at accepted
        omega
      unfold State.accept
      dsimp only
      split
      · next short =>
        refine .bare (.measured _ fun ⟨tracked, _, long, each, last, _, _⟩ => ?_)
        simp only [List.length_append, List.length_singleton] at short
        simp_all [State.fmuSound, or_imp, forall_and]
        omega
      · have range := carriedFrequency_range (s.fmu.window ++ [periodOf s.fmu.timebase r]).sum
        refine .window (fun _ => ?_) (.complete sense _ range.1 range.2)
        simp_all [State.fmuSound, completionOf]
    · refine .window (fun ⟨_, _, _, _, last, _, _⟩ => ?_) .slowPeriod
      simp_all [State.fmuSound]

/-! #### The rows -/

theorem bankCommand_event {bank : Byte} {f : State → BankNo → Governor × Result} {s : State}
    (part : ∀ k, BarePart s { s with gov := (f s k).1 }) : Event s (bankCommand bank f s).1 := by
  unfold bankCommand
  split
  · exact .bare .nothing
  · exact .bare (part _)

theorem slotCommand_event {slot : Byte} {f : State → Slot → State × Reply} {s : State} (e : ∀ n, Event s (f s n).1) :
    Event s (slotCommand slot f s).1 := by
  unfold slotCommand
  split
  · exact .bare .nothing
  · exact e _

theorem admitted_event {x : Nat} {granted : State → State} {s : State} (part : SettledPart s (granted s)) :
    Event s (admitted x granted s).1 := by
  unfold admitted
  split
  · exact .settled part
  · exact .bare .nothing
  · exact .bare .nothing

theorem settledCommand_event {f : State → State × Reply} {s : State} (part : SettledPart s (f s).1) :
    Event s (settledCommand f s).1 := .settled part

theorem classOf_range {b : Byte} {c : Nat} (h : classOf b = some c) : c ≤ 3 := by
  unfold classOf at h
  split at h
  · cases h; assumption
  · cases h

theorem limitOf_range {h : Half} {l : Nat} (here : limitOf h = some l) : l ≤ 2000 := by
  unfold limitOf at here
  split at here
  · cases here; assumption
  · cases here

theorem provisionCommand_event (slot kind : Byte) (x : Serial) (cls : Byte) (limit : Half) (connect : Byte) (s : State) :
    Event s (s.provisionCommand slot kind x cls limit connect).1 := by
  unfold State.provisionCommand
  split
  · next n k c l con _ _ hc hl _ =>
    split_ifs with vacant fresh room
    · exact .bare .nothing
    · exact .bare .nothing
    · exact .bare .nothing
    · exact .settled (.line (.provision n k x c l con (by simpa using vacant) (by simpa using fresh) (by simpa using room)
        (classOf_range hc) (limitOf_range hl)))
  · exact .bare .nothing

theorem editCommand_event (slot : Byte) (limit : Half) (cls : Byte) (s : State) :
    Event s (s.editCommand slot limit cls).1 := by
  unfold State.editCommand
  split
  · next n l c _ hl hc =>
    split
    · next st here =>
      split
      · next sv service =>
        split_ifs
        · exact .bare .nothing
        · exact .bare (.line (.edit n st sv _ here service (limitOf_range hl) (classOf_range hc)))
      · exact .bare .nothing
    · exact .bare .nothing
  · exact .bare .nothing

theorem closeCommand_event (s : State) (n : Slot) : Event s (s.closeCommand n).1 := by
  unfold State.closeCommand
  split
  · exact .bare .nothing
  · next st sv here =>
    split
    · exact .bare .nothing
    · exact .bare .nothing
    · exact .bare .nothing
    · exact .bare .nothing
    · split
      · exact .bare .nothing
      · next limit => exact admitted_event (.line (.close n st sv here (Nat.le_of_not_lt limit)))

theorem openCommand_event (s : State) (n : Slot) : Event s (s.openCommand n).1 := by
  unfold State.openCommand
  split
  · exact .bare .nothing
  · next st sv here =>
    split
    · exact .bare .nothing
    · exact .settled (.line (.opened n st sv here))

theorem releaseCommand_event (s : State) (n : Slot) : Event s (s.releaseCommand n).1 := by
  unfold State.releaseCommand
  split
  · exact .bare .nothing
  · next st sv here =>
    split_ifs with _ limit
    · exact .bare .nothing
    · exact .bare .nothing
    · exact admitted_event (.line (.release n st sv here (Nat.le_of_not_lt limit)))

theorem retireCommand_event (s : State) (n : Slot) : Event s (s.retireCommand n).1 := by
  unfold State.retireCommand
  split
  · exact .bare .nothing
  · next st here =>
    split
    · exact .bare .nothing
    · exact .settled (.line (.vacate n))
    · exact .settled (.line (.retire n st here))

theorem nextChanged_event (s : State) :
    Event s (match s.firstChanged with
      | some n => (s.setRecord n { s.record n with changed := false }, Reply.reading (.record n))
      | none => (s, .plain .done)).1 := by
  split
  · exact .bare (.line (.unmark _))
  · exact .bare .nothing

theorem applyPlans_event (scope : Byte) (s : State) :
    Event s (match scopeOf scope with
      | none => (s, Reply.plain .range)
      | some sc => if s.account.apply.isSome then (s, .plain .busy) else settledCommand (State.startApply scope sc) s).1 := by
  split
  · exact .bare .nothing
  · next sc _ =>
    split
    · exact .bare .nothing
    · next free =>
      exact settledCommand_event (.line (.apply scope sc (by simpa using free)))

theorem lineStart_event (s : State) : Event s (engineCommand Engine.start s).1 := by
  unfold engineCommand Engine.start
  cases s.engine.state with
  | stopped => exact .settled (.line .lineStart)
  | running => exact .bare .nothing
  | held => exact .bare .nothing

theorem lineHold_event (s : State) : Event s (engineCommand Engine.holdLine s).1 := by
  unfold engineCommand Engine.holdLine
  cases s.engine.state with
  | stopped => exact .bare .nothing
  | running => exact .settled (u := s.withEngine fun e => { e with state := .held }) (.line (.lineState .held))
  | held => exact .bare .nothing

theorem lineResume_event (s : State) : Event s (engineCommand Engine.resume s).1 := by
  unfold engineCommand Engine.resume
  cases s.engine.state with
  | stopped => exact .bare .nothing
  | running => exact .bare .nothing
  | held => exact .settled (u := s.withEngine fun e => { e with state := .running }) (.line (.lineState .running))

theorem sawRequest_event (d : Nat) (s : State) : Event s (s.sawRequest d).1 := by
  unfold State.sawRequest
  split
  · exact .bare .nothing
  · next range =>
    split
    · exact .bare .nothing
    · next idle =>
      have idle : s.saw.state = .idle := not_not.mp idle
      split
      · exact .settled (.sawGrant d idle (by omega) (by omega))
      · exact .bare (.wait d idle (by omega) (by omega))
      · exact .bare .nothing

/-- What every row does outside a reset, the command port apart. -/
theorem exec_moves (i : Instr) (s t : State) (awake : s.awake) (h : exec i s = .next t) : Moves s t := by
  unfold exec at h
  cases i with
  | risingCrossing sense => exact moves_live awake h (.of_event (crossing_event sense s awake))
  | silenceTimerExpiry => exact moves_expiry awake h (.of_event (.bare .silence))
  | bankFailedOpen k => exact moves_live awake h (.of_event (.bare (.governor (.bankFailedOpen k))))
  | bankFailedStuck k => exact moves_live awake h (.of_event (.bare (.governor (.bankFailedStuck k))))
  | bankDisable bank => exact moves_command awake h (bankCommand_event fun k => .governor (.bankDisable k))
  | bankEnable bank => exact moves_command awake h (bankCommand_event fun k => .governor (.bankEnable k))
  | bankReturn bank => exact moves_command awake h (bankCommand_event fun k => .governor (.bankReturn k))
  | bankRatings r => exact moves_command awake h (.bare (.governor (.bankRatings r)))
  | bankCheck bank => exact moves_command awake h (bankCommand_event fun k => .governor (.bankCheck k))
  | checkWindowsExhausted => exact moves_live awake h (.of_event (.bare (.governor .checkExhausted)))
  | gainSet kp ki => exact moves_command awake h (.bare (.governor (.gains _ _ (Nat.min_le_right _ _) (Nat.min_le_right _ _))))
  | governorRead => exact moves_command awake h (.bare .nothing)
  | gatePulse => exact moves_live awake h (.of_event (.bare (.gate .pulse)))
  | endSwitchActivation sw active => exact moves_live awake h (.of_event (.bare (.gate (.endSwitch sw active))))
  | pauseTimerExpiry => exact moves_expiry awake h (.of_event (.bare (.gate .pauseOver)))
  | jamTimerExpiry => exact moves_expiry awake h (.of_event (.bare (.gate .jam)))
  | gateRetry =>
    refine moves_command awake h ?_
    split
    · exact .bare (.gate .retry)
    · exact .bare .nothing
  | trimDecision => exact moves_live awake h (.of_event (.bare (.gate .trim)))
  | gateSet v =>
    refine moves_command awake h ?_
    split_ifs with _ trip
    · exact .bare .nothing
    · exact .bare .nothing
    · exact .bare .nothing
    · exact .bare (.gate (.gateSet v.toNat (by simpa using trip)))
  | gateCalibrate v =>
    refine moves_command awake h ?_
    split_ifs with range
    · exact .bare .nothing
    · exact .bare .nothing
    · exact .bare .nothing
    · exact .bare (.gate (.calibrate v.toNat (Nat.le_of_not_lt range)))
  | gateTrimSet f d =>
    have range := clampNat_bounds 10 500 d.toNat (by decide)
    exact moves_command awake h (.bare (.gate (.trimSet _ _ range.1 range.2)))
  | gateRead => exact moves_command awake h (.bare .nothing)
  | planLoad bands =>
    refine moves_command awake h ?_
    split
    · next range => exact .settled (.line (.planLoad _ range))
    · exact .bare .nothing
  | holdTimerExpiry => exact moves_expiry awake h (.of_event (.settled (.line .holdOver)))
  | planRead => exact moves_command awake h (.bare .nothing)
  | provision slot kind x cls limit connect =>
    exact moves_command awake h (provisionCommand_event slot kind x cls limit connect s)
  | edit slot limit cls => exact moves_command awake h (editCommand_event slot limit cls s)
  | closeSlot slot => exact moves_command awake h (slotCommand_event (closeCommand_event s))
  | openSlot slot => exact moves_command awake h (slotCommand_event (openCommand_event s))
  | releaseSlot slot => exact moves_command awake h (slotCommand_event (releaseCommand_event s))
  | retireSlot slot => exact moves_command awake h (slotCommand_event (retireCommand_event s))
  | recordLinkSilent n => exact moves_live awake h (.of_event (.settled (.line (.linkSilent n))))
  | silenceTimeLimit n => exact moves_expiry awake h (.of_event (.settled (.line (.silenceLimit n))))
  | recloseTimerExpiry n => exact moves_expiry awake h (.of_event (.bare (.line (.recloseDue n))))
  | liveTimeLimit n => exact moves_expiry awake h (.of_event (.bare (.line (.liveLimit n))))
  | nextChanged => exact moves_command awake h (nextChanged_event s)
  | readRecord slot => exact moves_command awake h (slotCommand_event fun _ => .bare .nothing)
  | applyPlans scope => exact moves_command awake h (applyPlans_event scope s)
  | applyComplete => exact moves_live awake h (.of_event (.bare (.line .applyDone)))
  | restoreTick => exact moves_expiry awake h (.of_event (.settled .restoreTick))
  | reserveSet r => exact moves_command awake h (.settled (.line (.reserve r.toNat)))
  | accountRead => exact moves_command awake h (.bare .nothing)
  | transmissionEnd => exact moves_expiry awake h (.of_event (.settled (.line .transmissionOver)))
  | replyWindowTimeout => exact moves_expiry awake h (.of_event (.settled (.line .windowOver)))
  | replyEnd => exact moves_expiry awake h (.of_event (.settled (.line .replyOver)))
  | replyLengthLimit => exact moves_expiry awake h (.of_event (.settled (.line .replyTooLong)))
  | turnEnd => exact moves_expiry awake h (.of_event (.settled (.line .turnOver)))
  | lineStart => exact moves_command awake h (lineStart_event s)
  | lineHold => exact moves_command awake h (lineHold_event s)
  | lineResume => exact moves_command awake h (lineResume_event s)
  | lineStop =>
    refine moves_command awake h ?_
    dsimp only
    split
    · exact .bare .nothing
    · exact .settled (.line .lineStop)
  | lineStopCompletion =>
    refine moves_live awake h (.of_event (.settled ?_))
    dsimp only
    split
    · next stop => exact .line (.stopCompletes stop.1 stop.2)
    · exact .line .nothing
  | turnChoice => exact moves_live awake h (.of_event (.bare (.line .turn)))
  | assignAbandoned x => exact moves_live awake h (.of_event (.settled (.line (.abandon x))))
  | enrolStart =>
    refine moves_command awake h ?_
    split
    · exact .bare .nothing
    · exact .settled (.line .enrolStart)
  | enrolStop =>
    refine moves_command awake h ?_
    dsimp only
    split
    · exact .settled (.line .enrolStop)
    · exact .bare .nothing
  | automaticEnrollment => exact moves_live awake h (.of_event (.settled (.line .autoEnrol)))
  | rejoinIntervalExpiry => exact moves_expiry awake h (.of_event (.settled (.line .rejoinOver)))
  | straysRead => exact moves_command awake h (.bare .nothing)
  | strayDrop x =>
    refine moves_command awake h ?_
    split
    · exact .bare (.line (.dropStray x))
    · exact .bare .nothing
  | lineRead => exact moves_command awake h (.bare .nothing)
  | sawEngChange engaged => exact moves_live awake h (.of_event (.bare (.raw engaged)))
  | debounceTimerExpiry => exact moves_expiry awake h (.of_event (.settled .debounceOver))
  | sawRequest d => exact moves_command awake h (sawRequest_event d.toNat s)
  | waitingTimerExpiry => exact moves_expiry awake h (.of_event (.settled .waitingOver))
  | preparingTimerExpiry => exact moves_expiry awake h (.of_event (.settled .preparingOver))
  | idleTimerExpiry => exact moves_expiry awake h (.of_event (.settled .idleOver))
  | stuckTimerExpiry => exact moves_expiry awake h (.of_event (.bare .stuck))
  | sawStop =>
    refine moves_command awake h ?_
    dsimp only
    split
    · exact .settled .sawStop
    · exact .bare .nothing
  | sawSet nominal cls =>
    refine moves_command awake h ?_
    split
    · exact .bare .nothing
    · exact .bare (.sawSet _ _ (by omega) (by omega) (by omega) (by omega))
  | sawRead => exact moves_command awake h (.bare .nothing)
  | tripClear =>
    refine moves_command awake h ?_
    split_ifs
    · exact .bare .nothing
    · exact .bare .nothing
    · exact .bare .tripClear
  | shedStep =>
    refine moves_live awake h (.of_event (.settled ?_))
    dsimp only
    split
    · exact .shedStep
    · exact .line .nothing
  | shedIntervalExpiry => exact moves_expiry awake h (.of_event (.bare .intervalOver))
  | settledTimerExpiry => exact moves_expiry awake h (.of_event (.bare .settledOver))
  | protSet fset tripOffset ufOffset interval =>
    refine moves_command awake h ?_
    split_ifs with _ range
    · exact .bare .nothing
    · exact .bare .nothing
    · exact .bare (.protSet fset tripOffset ufOffset interval (by simpa using range))
  | protLock => exact moves_command awake h (.bare .lock)
  | shedMode mode =>
    refine moves_command awake h ?_
    split
    · exact .bare .nothing
    · exact .bare (.auto _)
  | protRead => exact moves_command awake h (.bare .nothing)
  | transactionStart =>
    refine moves_live awake h ?_
    unfold State.beginTransaction
    split
    · exact .refl s
    · exact ⟨s, _, _, .bare .nothing, rfl⟩
    · exact ⟨s, _, _, .bare .nothing, rfl⟩
  | noOp => exact moves_command awake h (.bare .nothing)
  | commandFrameError mosi =>
    refine moves_live awake h ?_
    unfold State.frameError
    split
    · exact ⟨s, _, _, .bare .nothing, rfl⟩
    · split
      · exact ⟨s, _, _, .bare .nothing, rfl⟩
      · exact ⟨s, _, _, .bare .nothing, rfl⟩
  | notReadyRefusal => exact moves_live awake h ⟨s, _, _, .bare .nothing, rfl⟩
  | responseReady =>
    refine moves_expiry awake h ?_
    unfold State.formResponse
    split
    · exact ⟨s, _, _, .bare .nothing, rfl⟩
    · exact .refl s
  | attnRead => exact moves_command awake h (.bare .nothing)
  | attnClear mask => exact moves_command awake h (.bare (.clearAttn mask))
  | ident => exact moves_command awake h (.bare .nothing)
  | status => exact moves_command awake h (.bare .nothing)
  | powerOnReset => cases h; exact .of_event .powerOn
  | pinReset => cases h; exact .of_event .pin
  | supplyReset => exact moves_command awake h (.settled .supplyReset)
  | replyStartBit samples stop =>
    refine moves_live awake h ?_
    split
    · exact .of_event (.bare (.line (.startBit _ _)))
    · exact .refl s
  | resetEnd nomsel shut full engaged =>
    cases h
    rw [State.resetOver, awake]
    exact .refl s

/-- R184: every row but those of the resets acts unless a reset is in progress. -/
theorem exec_live (i : Instr) (powerOn : i ≠ .powerOnReset) (pin : i ≠ .pinReset)
    (ended : ∀ nomsel shut full engaged, i ≠ .resetEnd nomsel shut full engaged) : ∃ f, ∀ s, exec i s = live f s := by
  cases i with
  | powerOnReset => exact absurd rfl powerOn
  | pinReset => exact absurd rfl pin
  | resetEnd nomsel shut full engaged => exact absurd rfl (ended nomsel shut full engaged)
  | _ => exact ⟨_, fun s => rfl⟩

/-- What a predicate on the part's own blocks has to survive to be kept by every step: every event, every microsecond and the
three rows of the resets; it asks nothing of the command port, the free choices and the queue. -/
structure Kept (P : State → Prop) : Prop where
  queue : ∀ s h n ran waiting, P s → P { s with host := h, choices := n, ranOut := ran, pending := waiting }
  count : ∀ s, s.awake → P s → P s.count
  bare : ∀ s u, s.awake → BarePart s u → P s → P u
  settled : ∀ s u, s.awake → SettledPart s u → P s → P (State.settle s u)
  powerOn : ∀ s, P s → P s.powerOnReset
  pin : ∀ s, P s → P s.pinReset
  ended : ∀ s k nomsel shut full engaged, s.resetting = some k → P s → P (s.endReset k nomsel shut full engaged)

namespace Kept

theorem event {P : State → Prop} (kept : Kept P) {s u : State} (awake : s.awake) (e : Event s u) (sound : P s) : P u := by
  cases e with
  | bare part => exact kept.bare s u awake part sound
  | settled part => exact kept.settled s _ awake part sound
  | window measured part => exact kept.settled _ _ awake part (kept.bare s _ awake (.measured _ measured) sound)
  | powerOn => exact kept.powerOn s sound
  | pin => exact kept.pin s sound

theorem exec {P : State → Prop} (kept : Kept P) {i : Instr} {s t : State} (h : exec i s = .next t) (sound : P s) : P t := by
  cases reset : s.resetting with
  | none =>
    obtain ⟨u, host, n, e, rfl⟩ := exec_moves i s t reset h
    exact kept.queue u _ _ _ _ (kept.event reset e sound)
  | some k =>
    by_cases powerOn : i = .powerOnReset
    · subst powerOn; cases h; exact kept.powerOn s sound
    by_cases pin : i = .pinReset
    · subst pin; cases h; exact kept.pin s sound
    by_cases ended : ∃ nomsel shut full engaged, i = .resetEnd nomsel shut full engaged
    · obtain ⟨nomsel, shut, full, engaged, rfl⟩ := ended
      cases h
      rw [State.resetOver, reset]
      exact kept.ended s k nomsel shut full engaged reset sound
    · obtain ⟨f, row⟩ := exec_live i powerOn pin fun a b c d h => ended ⟨a, b, c, d, h⟩
      rw [row, live_in_reset f s k reset] at h
      cases h
      exact sound

theorem tick {P : State → Prop} (kept : Kept P) {s : State} (sound : P s) : P s.tick := by
  unfold State.tick State.enqueue
  split
  · exact sound
  · next awake =>
    split
    · exact kept.queue _ _ _ _ _ (kept.count s awake sound)
    · exact kept.queue _ _ _ _ _ (kept.count s awake sound)

/-- A predicate that is kept so is kept by every step. -/
theorem step {P : State → Prop} (kept : Kept P) (s t : State) (sound : P s) (h : step s = .next t) : P t := by
  unfold Machine.step at h
  split at h
  · exact kept.exec h (kept.queue s _ _ _ _ sound)
  · cases h
    exact kept.tick sound

end Kept

end Sys2Proof.Machine

/-! ## Proofs: what each part of an event keeps -/

namespace Sys2Proof.Machine

/-! ### What the parts of the governor and the gate keep -/

/-- Blank the governor. -/
def State.exceptGov (s : State) : State :=
  { s with gov := Governor.atReset (Vector.replicate 8 (Bank.atReset 0 false)) 0 }

/-- The governor is outside what its parts keep. -/
theorem gov_exceptGov (g : Governor) (s : State) : { s with gov := g }.exceptTable.exceptGov = s.exceptTable.exceptGov := rfl

theorem gov_raise_exceptGov (g : Governor) (a : Attn) (s : State) :
    (State.raise a { s with gov := g }).exceptTable.exceptGov = s.exceptTable.exceptGov := by
  rw [State.raise_exceptTable, gov_exceptGov]

theorem GovernorPart.exceptGov {s u : State} (part : GovernorPart s u) :
    u.exceptTable.exceptGov = s.exceptTable.exceptGov := by
  cases part with
  | bankFailedOpen k =>
    simp only [State.bankFailedOpen]
    split
    · exact gov_raise_exceptGov _ _ s
    · rfl
  | bankFailedStuck k =>
    simp only [State.bankFailedStuck]
    split
    · split
      · exact gov_raise_exceptGov _ _ s
      · exact gov_raise_exceptGov _ _ s
      · rw [State.raise_exceptTable]; exact gov_raise_exceptGov _ _ s
      · rfl
      · rfl
    · rfl
  | checkExhausted =>
    unfold State.checkExhausted
    split
    · split
      · exact gov_raise_exceptGov _ _ s
      · rfl
    · rfl
  | _ => rfl

/-- The gate is outside what its parts keep. -/
theorem gate_raise_exceptGate (g : Gate) (a : Attn) (s : State) :
    (State.raise a { s with gate := g }).exceptTable.exceptGate = s.exceptTable.exceptGate := by
  rw [State.raise_exceptTable]; rfl

theorem trimDecision_exceptGate (s : State) : s.trimDecision.exceptGate = s.exceptGate := by
  unfold State.trimDecision
  split_ifs <;> rfl

theorem positionerTake_exceptGate (s : State) : s.positionerTake.exceptGate = s.exceptGate := by
  unfold State.positionerTake
  split
  · exact trimDecision_exceptGate _
  · rfl

theorem GatePart.exceptGate {s u : State} (part : GatePart s u) : u.exceptTable.exceptGate = s.exceptTable.exceptGate := by
  cases part with
  | endSwitch sw active =>
    simp only [State.endSwitch]
    split_ifs
    · rfl
    · exact gate_raise_exceptGate _ _ s
    · rfl
  | jam =>
    unfold State.jamExpiry
    split
    · exact gate_raise_exceptGate _ _ s
    · rfl
  | trim => exact congrArg State.exceptTable (trimDecision_exceptGate s)
  | _ => rfl

/-! ### What the parts of the line keep -/

/-- Blank the pending feed-forward. -/
def State.exceptFeed (s : State) : State := { s with gov := { s.gov with ff := 0 } }

/-- What the parts of records, turns, errands, the account and the water plan keep, but that a sent SHED posts to FF: the
measurement, the governor, the gate, the saw and the protection unit. -/
def State.lineBlocks (s : State) : State :=
  s.exceptTable.exceptEngine.exceptWater.exceptPort.exceptAccount

/-- The blocks that such a part keeps, whether or not it posts. -/
def State.powerBlocks (s : State) : State := s.lineBlocks.exceptFeed

/-- What is kept but for the table and the engine. -/
theorem lineBlocks_of_exceptEngine {s u : State} (h : u.exceptTable.exceptEngine = s.exceptTable.exceptEngine) :
    u.lineBlocks = s.lineBlocks :=
  congrArg (fun t : State => t.exceptWater.exceptPort.exceptAccount) h

/-- What is kept but for the table. -/
theorem lineBlocks_of_exceptTable {s u : State} (h : u.exceptTable = s.exceptTable) : u.lineBlocks = s.lineBlocks :=
  lineBlocks_of_exceptEngine (congrArg State.exceptEngine h)

/-- What is kept but for the table, the engine and the water plan. -/
theorem lineBlocks_of_exceptWater {s u : State}
    (h : u.exceptTable.exceptEngine.exceptWater = s.exceptTable.exceptEngine.exceptWater) :
    u.lineBlocks = s.lineBlocks :=
  congrArg (fun t : State => t.exceptPort.exceptAccount) h

/-- What is kept but for the table and the account. -/
theorem lineBlocks_of_exceptAccount {s u : State} (h : u.exceptTable.exceptAccount = s.exceptTable.exceptAccount) :
    u.lineBlocks = s.lineBlocks :=
  congrArg (fun t : State => t.exceptEngine.exceptWater.exceptPort) h

theorem BareLinePart.lineBlocks {s u : State} (part : BareLinePart s u) : u.lineBlocks = s.lineBlocks := by
  cases part with
  | edit n st sv p => exact lineBlocks_of_exceptTable (setService_exceptTable n st _ s)
  | recloseDue n => exact lineBlocks_of_exceptTable (recloseDue_exceptTable n s)
  | liveLimit n => exact lineBlocks_of_exceptTable (liveLimit_exceptTable n s)
  | unmark n => rfl
  | applyDone => exact lineBlocks_of_exceptAccount (applyDone_exceptAccount s)
  | turn => exact congrArg (fun t : State => t.exceptWater.exceptAccount) (chooseTurn_exceptPort s)
  | dropStray x => rfl
  | startBit char bad => rfl

@[simp] theorem provision_exceptWater (n : Slot) (kind : Kind) (x : Serial) (cls limit : Nat) (connect : Bool) (s : State) :
    (s.provision n kind x cls limit connect).exceptTable.exceptEngine.exceptWater =
      s.exceptTable.exceptEngine.exceptWater := by
  unfold State.provision
  dsimp only
  cases kind <;> dsimp only <;> split <;> rfl

/-- R103: one slot taken by an Apply changes no more than its record. -/
theorem applySlot_exceptTable (sc : Scope) (acc : State × List Slot × Nat) (n : Slot) :
    (applySlot sc acc n).1.exceptTable = acc.1.exceptTable := by
  unfold applySlot
  dsimp only
  split
  · rfl
  · split
    · rfl
    · split
      · rfl
      · split
        · dsimp only
          split <;> simp
        · rfl

theorem applyAll_exceptTable (sc : Scope) (s : State) : (s.applyAll sc).1.exceptTable = s.exceptTable := by
  have all : ∀ (l : List Slot) (acc : State × List Slot × Nat),
      (l.foldl (applySlot sc) acc).1.exceptTable = acc.1.exceptTable := by
    intro l
    induction l with
    | nil => exact fun _ => rfl
    | cons n l ih => exact fun acc => (ih _).trans (applySlot_exceptTable sc acc n)
  rw [State.applyAll, all]

/-- R102: what APPLY leaves, by whether the working set is empty. -/
theorem startApply_fst (scope : Byte) (sc : Scope) (s : State) :
    (s.startApply scope sc).1 =
      if (s.applyAll sc).2.1 = [] then (s.applyAll sc).1
      else { (s.applyAll sc).1 with account := { (s.applyAll sc).1.account with
        apply := some ⟨scope, (s.applyAll sc).2.1.map (fun n => (n, .pending)), (s.applyAll sc).2.2⟩ } } := by
  unfold State.startApply
  generalize s.applyAll sc = r
  exact apply_ite Prod.fst _ _ _

theorem startApply_exceptAccount (scope : Byte) (sc : Scope) (s : State) :
    (s.startApply scope sc).1.exceptTable.exceptAccount = s.exceptTable.exceptAccount := by
  have all := congrArg State.exceptAccount (applyAll_exceptTable sc s)
  rw [startApply_fst]
  split
  · exact all
  · rw [← all]
    generalize s.applyAll sc = r
    rfl

/-- What a sent event does to the governor: nothing, or a post to FF (R142). -/
def Posts (g h : Governor) : Prop := h = g ∨ ∃ x, h = g.post x

theorem handSent_lineBlocks (s : State) : ∃ g, Posts s.gov g ∧ s.handSent.lineBlocks = { s with gov := g }.lineBlocks := by
  unfold State.handSent
  split
  · split
    · exact ⟨s.gov, .inl rfl, rfl⟩
    · unfold State.sent
      split
      · exact ⟨_, .inr ⟨_, rfl⟩, rfl⟩
      · exact ⟨s.gov, .inl rfl, lineBlocks_of_exceptWater (congrArg State.exceptEngine (muteSent_exceptWater _ s))⟩
      all_goals exact ⟨s.gov, .inl rfl, rfl⟩
  · exact ⟨s.gov, .inl rfl, rfl⟩

/-- The port is outside what the parts of the line keep. -/
theorem port_lineBlocks (p : LinePort) (s : State) : { s with port := p }.lineBlocks = s.lineBlocks := rfl

theorem handOutcome_lineBlocks (h : Heard) (s : State) : (s.handOutcome h).lineBlocks = s.lineBlocks :=
  lineBlocks_of_exceptWater (handOutcome_exceptWater h s)

theorem LinePart.lineBlocks {s u : State} (part : LinePart s u) :
    ∃ g, Posts s.gov g ∧ u.lineBlocks = { s with gov := g }.lineBlocks := by
  have kept : u.lineBlocks = s.lineBlocks → ∃ g, Posts s.gov g ∧ u.lineBlocks = { s with gov := g }.lineBlocks :=
    fun h => ⟨s.gov, .inl rfl, h⟩
  cases part with
  | nothing => exact kept rfl
  | provision n kind x cls limit connect =>
    refine kept ?_
    exact lineBlocks_of_exceptWater (provision_exceptWater n kind x cls limit connect s)
  | close n st sv => exact kept (lineBlocks_of_exceptTable (setService_exceptTable n st _ s))
  | release n st sv => exact kept (lineBlocks_of_exceptTable (setService_exceptTable n st _ s))
  | opened n st sv => exact kept (lineBlocks_of_exceptTable (setService_exceptTable n st _ s))
  | vacate n => exact kept (lineBlocks_of_exceptWater (congrArg State.exceptEngine (vacate_exceptWater n s)))
  | retire n st => exact kept (lineBlocks_of_exceptEngine (retire_exceptEngine n st s))
  | linkSilent n => exact kept (lineBlocks_of_exceptWater (congrArg State.exceptEngine (linkSilent_exceptWater n s)))
  | silenceLimit n => exact kept (lineBlocks_of_exceptTable (silenceLimit_exceptTable n s))
  | apply scope sc => exact kept (lineBlocks_of_exceptAccount (startApply_exceptAccount scope sc s))
  | reserve r => exact kept rfl
  | transmissionOver =>
    unfold State.transmissionOver
    split
    · split
      · exact ⟨s.gov, .inl rfl, rfl⟩
      · exact handSent_lineBlocks { s with port := s.port.toQuiet }
    · exact ⟨s.gov, .inl rfl, rfl⟩
  | windowOver =>
    refine kept ?_
    unfold State.windowOver
    split
    · exact (handOutcome_lineBlocks _ _).trans (port_lineBlocks _ s)
    · rfl
  | replyOver =>
    refine kept ?_
    unfold State.replyOver
    split
    · exact (handOutcome_lineBlocks _ _).trans (port_lineBlocks _ s)
    · rfl
  | replyTooLong =>
    refine kept ?_
    unfold State.replyTooLong
    split
    · exact (handOutcome_lineBlocks _ _).trans (port_lineBlocks _ s)
    · rfl
  | turnOver =>
    refine kept ?_
    unfold State.turnOver
    split
    · dsimp only
      split
      · exact (lineBlocks_of_exceptEngine (completeStop_exceptEngine _)).trans (port_lineBlocks _ s)
      · rfl
    · rfl
  | lineStart => exact kept rfl
  | lineState state => exact kept rfl
  | lineStop =>
    refine kept ?_
    unfold State.stopLine
    split
    · exact lineBlocks_of_exceptEngine (completeStop_exceptEngine _)
    · rfl
  | stopCompletes => exact kept (lineBlocks_of_exceptEngine (completeStop_exceptEngine s))
  | abandon x => exact kept (lineBlocks_of_exceptEngine (abandonSerial_exceptEngine x s))
  | enrolStart => exact kept rfl
  | enrolStop => exact kept rfl
  | autoEnrol => exact kept (lineBlocks_of_exceptEngine (autoEnrol_exceptEngine s))
  | rejoinOver => exact kept rfl
  | planLoad bands =>
    refine kept ?_
    exact lineBlocks_of_exceptWater ((congrArg (fun t : State => t.exceptEngine.exceptWater)
      (State.raise_exceptTable .level { s with water := s.water.load bands })).trans rfl)
  | holdOver => exact kept rfl

theorem BareLinePart.powerBlocks {s u : State} (part : BareLinePart s u) : u.powerBlocks = s.powerBlocks :=
  congrArg State.exceptFeed part.lineBlocks

theorem LinePart.powerBlocks {s u : State} (part : LinePart s u) : u.powerBlocks = s.powerBlocks := by
  obtain ⟨g, posts, eq⟩ := part.lineBlocks
  refine (congrArg State.exceptFeed eq).trans ?_
  rcases posts with rfl | ⟨x, rfl⟩ <;> rfl

/-! ### What the restore tick, a shed step and a completion keep -/

theorem recloseBranch_exceptTable {s t : State} (h : s.recloseBranch = some t) : t.exceptTable = s.exceptTable := by
  unfold State.recloseBranch at h
  split at h
  · cases h
  · split at h
    · cases h
    · split_ifs at h <;> cases h <;> simp

theorem frequencyBranch_exceptTable {s t : State} (h : s.frequencyBranch = some t) : t.exceptTable = s.exceptTable := by
  unfold State.frequencyBranch at h
  split at h
  · split at h
    · cases h
    · cases h; simp
  · cases h

theorem capacityBranch_exceptTable {s t : State} (h : s.capacityBranch = some t) : t.exceptTable = s.exceptTable := by
  unfold State.capacityBranch at h
  split at h
  · cases h
  · split at h
    · cases h
    · split_ifs at h <;> cases h <;> simp

/-- R111: the one action of a restore tick changes no more than a record. -/
@[simp] theorem restoreAction_exceptTable (s : State) : s.restoreAction.exceptTable = s.exceptTable := by
  unfold State.restoreAction
  split
  · next h => exact recloseBranch_exceptTable h
  · split
    · next h => exact frequencyBranch_exceptTable h
    · split
      · next h => exact capacityBranch_exceptTable h
      · rfl

@[simp] theorem recheckSaw_exceptSaw (s : State) : s.recheckSaw.exceptSaw = s.exceptSaw := by
  unfold State.recheckSaw
  split
  · split <;> rfl
  · rfl

/-- R111: a restore tick changes the table, the account, the saw and flags alone. -/
theorem restoreTick_exceptAccount (s : State) :
    s.restoreTick.exceptTable.exceptSaw.exceptAccount = s.exceptTable.exceptSaw.exceptAccount := by
  have saw := fun t : State => congrArg (fun u : State => u.exceptTable.exceptAccount) (recheckSaw_exceptSaw t)
  have action := fun t : State => congrArg (fun u : State => u.exceptSaw.exceptAccount) (restoreAction_exceptTable t)
  unfold State.restoreTick
  dsimp only
  split
  · exact (saw _).trans ((rederive_exceptAccount _).trans ((action _).trans ((rederive_exceptAccount _).trans
      (curtail_exceptAccount _))))
  · exact (saw _).trans ((rederive_exceptAccount _).trans ((action _).trans (rederive_exceptAccount _)))

/-- Blank the protection unit. -/
def State.exceptProt (s : State) : State := { s with prot := Protection.atReset }

/-- What a shed step keeps: all but the table, the engine, the saw, the protection unit and flags. -/
def State.shedBlocks (s : State) : State := s.exceptTable.exceptEngine.exceptSaw.exceptProt

theorem sawShedOrder_shedBlocks (s : State) : s.sawShedOrder.shedBlocks = s.shedBlocks :=
  congrArg (fun t : State => t.exceptEngine.exceptProt) (sawShedOrder_exceptSaw s)

theorem raise_shedBlocks (a : Attn) (s : State) : (s.raise a).shedBlocks = s.shedBlocks :=
  congrArg (fun t : State => t.exceptEngine.exceptSaw.exceptProt) (State.raise_exceptTable a s)

/-- The protection unit is outside what a shed step keeps. -/
theorem prot_shedBlocks (p : Protection) (s : State) : { s with prot := p }.shedBlocks = s.shedBlocks := rfl

/-- R173 step 1: the records that a shed step names are shed. -/
def State.shedRecords (l : List (Slot × Service)) (s : State) : State := l.foldl (fun t x => t.shedRequest true x.1) s

theorem shedRecords_exceptTable (l : List (Slot × Service)) (s : State) : (s.shedRecords l).exceptTable = s.exceptTable :=
  foldl_keeps _ _ _ _ fun t x => shedRequest_exceptTable true x.1 t

/-- R173 steps 1 and 2: the records are shed, and the entry placed. -/
def State.shedPlaced (c : Nat) (s : State) : State :=
  (s.shedRecords (s.shedList c)).withEngine (Engine.placeShed c (shedAmount (s.shedList c)))

theorem shedPlaced_exceptEngine (c : Nat) (s : State) :
    (s.shedPlaced c).exceptTable.exceptEngine = s.exceptTable.exceptEngine :=
  (withEngine_exceptEngine _ _).trans (congrArg State.exceptEngine (shedRecords_exceptTable _ s))

/-- R173: after records and entry the saw of the class is shed, and the step recorded. -/
theorem frequencyShed_eq (c : Nat) (s : State) :
    s.frequencyShed c =
      let t := if (s.shedPlaced c).saw.cls = c then (s.shedPlaced c).sawShedOrder else s.shedPlaced c
      { t with prot := { t.prot with lastStep := some (.shed c (s.shedList c).length (shedAmount (s.shedList c))) } } :=
  rfl

@[simp] theorem frequencyShed_shedBlocks (c : Nat) (s : State) : (s.frequencyShed c).shedBlocks = s.shedBlocks := by
  have placed : (s.shedPlaced c).shedBlocks = s.shedBlocks :=
    congrArg (fun t : State => t.exceptSaw.exceptProt) (shedPlaced_exceptEngine c s)
  rw [frequencyShed_eq, prot_shedBlocks]
  split
  · rw [sawShedOrder_shedBlocks, placed]
  · exact placed

theorem endShedStep_shedBlocks (s : State) : s.endShedStep.shedBlocks = s.shedBlocks := rfl

@[simp] theorem shedStep_shedBlocks (s : State) : s.shedStep.shedBlocks = s.shedBlocks := by
  unfold State.shedStep
  split
  · rw [endShedStep_shedBlocks, raise_shedBlocks, prot_shedBlocks]
  · split
    · rw [endShedStep_shedBlocks, frequencyShed_shedBlocks]
    · rw [endShedStep_shedBlocks, raise_shedBlocks, prot_shedBlocks]

/-- R171: the count of a window, and the shed step where that makes one due. -/
theorem countUf_eq (under : Bool) (s : State) (free : s.prot.trip = false) :
    s.countUf under =
      let t := { s with prot := { s.prot with uf := if under then min 3 (s.prot.uf + 1) else 0 } }
      if t.prot.stepDue then t.shedStep else t := by
  rw [State.countUf, free]
  rfl

theorem countUf_of_trip (under : Bool) (s : State) (trip : s.prot.trip = true) : s.countUf under = s := by
  rw [State.countUf, if_pos trip]

@[simp] theorem countUf_shedBlocks (under : Bool) (s : State) : (s.countUf under).shedBlocks = s.shedBlocks := by
  cases trip : s.prot.trip with
  | true => rw [countUf_of_trip under s trip]
  | false =>
    rw [countUf_eq under s trip]
    dsimp only
    generalize (if under = true then min 3 (s.prot.uf + 1) else 0) = n
    split
    · rw [shedStep_shedBlocks, prot_shedBlocks]
    · rw [prot_shedBlocks]

@[simp] theorem slowPeriod_shedBlocks (s : State) : s.slowPeriod.shedBlocks = s.shedBlocks := by
  rw [State.slowPeriod, countUf_shedBlocks]; rfl

theorem raiseAll_exceptTable (l : List Attn) (s : State) : (s.raiseAll l).exceptTable = s.exceptTable :=
  foldl_keeps _ _ _ _ fun t a => State.raise_exceptTable a t

/-- R15, R9: the governor as a receiver of a completion. -/
theorem governorTake_exceptGov (prev : Vector Bool 8) (sense : BitVec 8) (c : Completion) (s : State) :
    (s.governorTake prev sense c).exceptTable.exceptGov = s.exceptTable.exceptGov := by
  rw [State.governorTake, raiseAll_exceptTable, gov_exceptGov]

/-- R169, R18, R51: a trip onset changes the governor, the gate, the protection unit and flags alone. -/
theorem tripOnset_exceptProt (s : State) :
    s.tripOnset.exceptTable.exceptGov.exceptGate.exceptProt = s.exceptTable.exceptGov.exceptGate.exceptProt := by
  rw [State.tripOnset, State.raise_exceptTable, raiseAll_exceptTable]
  rfl

/-- Blank the measurement. -/
def State.exceptFmu (s : State) : State := { s with fmu := Fmu.atReset }

theorem silenceOver_exceptProt (s : State) :
    s.silenceOver.exceptTable.exceptFmu.exceptProt = s.exceptTable.exceptFmu.exceptProt := by
  unfold State.silenceOver State.signalLoss
  split
  · rfl
  · rw [State.raise_exceptTable]; rfl

end Sys2Proof.Machine

/-! ## Proofs: the saw permit unit (09_sawmill_drive_permit.md) -/

namespace Sys2Proof.Machine

/-! ### The saw permit unit stays sound (R156 to R164) -/

theorem Saw.toIdle_sound {w : Saw} (sound : w.sound) (free : w.clutch = false) : w.toIdle.sound := by
  simp_all [Saw.sound, Saw.consistent, Saw.toIdle]

/-- R163: a released or cutting saw closes, and one whose clutch is out becomes Idle within the event. -/
theorem Saw.toClosing_sound {w : Saw} (sound : w.sound) (state : w.state = .released ∨ w.state = .cutting) :
    w.toClosing.sound := by
  unfold Saw.toClosing
  split
  · obtain ⟨st, draw, _⟩ := w
    rcases state with state | state <;> simp_all [Saw.sound, Saw.consistent]
  · next free => exact Saw.toIdle_sound sound (by simpa using free)

theorem Saw.withdraw_sound {w : Saw} (sound : w.sound) : w.withdraw.sound := by
  have free : w.state = .waiting ∨ w.state = .preparing → w.clutch = false := by
    rintro (state | state) <;> simp_all [Saw.sound, Saw.consistent]
  unfold Saw.withdraw
  split
  · next state => exact Saw.toIdle_sound sound (free (.inl state))
  · next state => exact Saw.toIdle_sound sound (free (.inr state))
  · next state => exact Saw.toClosing_sound sound (.inl state)
  · next state => exact Saw.toClosing_sound sound (.inr state)
  · exact sound
  · exact sound
  · exact sound

theorem Saw.grant_sound {w : Saw} {d : Nat} (sound : w.sound) (least : 100 ≤ d) (most : d ≤ 4000)
    (state : w.state = .idle ∨ w.state = .waiting) : (w.grant d).sound := by
  obtain ⟨st, draw, _, _, _, _, clutch, _⟩ := w
  rcases state with state | state <;> simp_all [Saw.sound, Saw.consistent, Saw.grant]

theorem Saw.wait_sound {w : Saw} {d : Nat} (sound : w.sound) (least : 100 ≤ d) (most : d ≤ 4000) (state : w.state = .idle) :
    (w.wait d).sound := by
  obtain ⟨st, draw, _, _, _, _, clutch, _⟩ := w
  simp_all [Saw.sound, Saw.consistent, Saw.wait]

theorem Saw.surplusTest_sound {w : Saw} {bs : Nat} (sound : w.sound) : (w.surplusTest bs).sound := by
  obtain ⟨st, draw, _, _, _, _, clutch, _⟩ := w
  unfold Saw.surplusTest
  split
  · split
    · simp_all [Saw.sound, Saw.consistent]
    · exact sound
  · exact sound

theorem Saw.setRaw_sound {w : Saw} {level : Bool} (sound : w.sound) : (w.setRaw level).sound := by
  obtain ⟨consistent, reserved, draw, low, high, cls, cls3, debounce⟩ := sound
  unfold Saw.setRaw
  split
  · exact ⟨consistent, reserved, draw, low, high, cls, cls3, debounce⟩
  · refine ⟨consistent, reserved, draw, low, high, cls, cls3, ?_⟩
    dsimp only
    split <;> simp_all

theorem Saw.supplyReset_sound {w : Saw} (sound : w.sound) : w.supplyReset.sound := by
  unfold Saw.supplyReset
  dsimp only
  split <;> simp_all [Saw.sound, Saw.consistent]

theorem Saw.foundAt_sound {w : Saw} {engaged : Bool} (sound : w.sound) (free : w.clutch = false) :
    (w.foundAt engaged).sound := by
  obtain ⟨consistent, reserved, draw, low, high, cls, cls3, -⟩ := sound
  refine ⟨consistent, reserved, draw, low, high, cls, cls3, ?_⟩
  cases engaged <;> simp [Saw.foundAt, free]

theorem Saw.atReset_sound : Saw.atReset.sound := by decide

/-- The last saw event is outside the rules. -/
theorem Saw.lastEvent_sound {w : Saw} {e : Option SawEvent} (sound : w.sound) : { w with lastEvent := e }.sound := sound

/-! #### The clutch edges and the timers -/

theorem Saw.unreleasedDraw_le {w : Saw} (sound : w.sound) : w.unreleasedDraw ≤ 4000 := by
  obtain ⟨-, reserved, draw, -, high, -⟩ := sound
  unfold Saw.unreleasedDraw
  cases here : w.draw with
  | none => simp; omega
  | some d => simp_all

/-- R159: the clutch of a released saw comes in. -/
theorem Saw.cut_sound {w : Saw} (sound : w.sound) (raw : w.raw = true) (state : w.state = .released) :
    { w with debounce := none, clutch := true, state := .cutting, idle := none, engaged := w.reserved }.sound := by
  obtain ⟨st, draw, _⟩ := w
  simp_all [Saw.sound, Saw.consistent]

/-- R164: the clutch of a saw that was not released comes in. -/
theorem Saw.unreleased_sound {w : Saw} (sound : w.sound) (raw : w.raw = true)
    (state : w.state = .idle ∨ w.state = .waiting ∨ w.state = .preparing) :
    (Saw.toClosing { w with
      debounce := none, clutch := true, reserved := w.unreleasedDraw, engaged := w.unreleasedDraw,
      lastEvent := some .unreleased }).sound := by
  have most := Saw.unreleasedDraw_le sound
  obtain ⟨st, draw, _⟩ := w
  rcases state with state | state | state <;> simp_all [Saw.sound, Saw.consistent, Saw.toClosing]

/-- R162, R163: the clutch comes out. -/
theorem Saw.out_sound {w : Saw} (sound : w.sound) (raw : w.raw = false) (held : w.clutch = true) :
    (w.state = .cutting →
      { w with debounce := none, clutch := false, engaged := 0, state := .released, idle := some Config.idleTime }.sound) ∧
    (Saw.toIdle { w with debounce := none, clutch := false, engaged := 0 }).sound ∧
    (w.state = .cutting ∨ w.state = .closing ∨ w.state = .fault) := by
  obtain ⟨st, draw, _⟩ := w
  cases st <;> simp_all [Saw.sound, Saw.consistent, Saw.toIdle]

theorem debounceOver_saw_sound {s : State} (sound : s.saw.sound) : s.debounceOver.saw.sound := by
  unfold State.debounceOver
  split
  · exact sound
  · dsimp only
    split_ifs with same raw
    · obtain ⟨consistent, reserved, draw, low, high, cls, cls3, -⟩ := sound
      exact ⟨consistent, reserved, draw, low, high, cls, cls3, by simp [same]⟩
    · have free : s.saw.clutch = false := by
        cases h : s.saw.clutch with
        | false => rfl
        | true => exact absurd (raw.trans h.symm) same
      have apart := sound.1
      unfold State.engageEdge
      dsimp only
      split
      · next state => exact Saw.cut_sound sound raw state
      · next state => exact Saw.unreleased_sound (w := s.saw) sound raw (.inl state)
      · next state => exact Saw.unreleased_sound (w := s.saw) sound raw (.inr (.inl state))
      · next state => exact Saw.unreleased_sound (w := s.saw) sound raw (.inr (.inr state))
      all_goals
        next state => simp_all [Saw.consistent]
    · have raw : s.saw.raw = false := by simpa using raw
      have held : s.saw.clutch = true := by
        cases h : s.saw.clutch with
        | true => rfl
        | false => exact absurd (raw.trans h.symm) same
      obtain ⟨cut, out, state⟩ := Saw.out_sound sound raw held
      unfold State.disengageEdge State.giveBack
      dsimp only
      split
      · next state => exact cut state
      · exact out
      · exact Saw.lastEvent_sound out
      all_goals
        next other => simp_all

/-- R163: the clutch of a closing saw stays in. -/
theorem Saw.stuck_sound {w : Saw} (sound : w.sound) (state : w.state = .closing) :
    { w with state := .fault, stuck := none, lastEvent := some .stuckClutch }.sound := by
  obtain ⟨st, draw, _, _, _, _, clutch, _⟩ := w
  simp_all [Saw.sound, Saw.consistent]

theorem waitingOver_saw_sound {s : State} (sound : s.saw.sound) : s.waitingOver.saw.sound := by
  unfold State.waitingOver
  split
  · next state => exact Saw.lastEvent_sound (Saw.toIdle_sound sound (by simp_all [Saw.sound, Saw.consistent]))
  · exact sound

theorem preparingOver_saw_sound {s : State} (sound : s.saw.sound) : s.preparingOver.saw.sound := by
  unfold State.preparingOver
  split
  · next state => exact Saw.lastEvent_sound (Saw.toIdle_sound sound (by simp_all [Saw.sound, Saw.consistent]))
  · exact sound

theorem idleOver_saw_sound {s : State} (sound : s.saw.sound) : s.idleOver.saw.sound := by
  unfold State.idleOver
  split
  · next state => exact Saw.toClosing_sound sound (.inl state)
  · exact sound

theorem stuckOver_saw_sound {s : State} (sound : s.saw.sound) : s.stuckOver.saw.sound := by
  unfold State.stuckOver
  split
  · next state => exact Saw.stuck_sound sound state
  · exact sound

/-! #### Shed orders -/

theorem sawShedOrder_saw_sound {s : State} (sound : s.saw.sound) : s.sawShedOrder.saw.sound := by
  unfold State.sawShedOrder
  split
  · exact Saw.lastEvent_sound (Saw.withdraw_sound sound)
  · exact sound

theorem curtailClass_saw_sound {s : State} (c : Nat) (sound : s.saw.sound) : (s.curtailClass c).saw.sound := by
  have records := block_of_blank State.saw State.exceptTable (by rintro ⟨⟩; rfl) (curtailRecords_exceptTable c slots s)
  rw [curtailClass_eq]
  generalize slots.foldl (State.curtailRecord c) s = t at records
  rw [← records] at sound
  split
  · exact sawShedOrder_saw_sound sound
  · exact sound

theorem curtail_saw (s : State) :
    s.curtail.saw = ([3, 2, 1].foldl (fun t c => if t.short then t.curtailClass c else t) s).saw := by
  unfold State.curtail
  dsimp only
  split
  · exact block_of_blank State.saw (fun t => t.exceptTable.exceptAccount) (by rintro ⟨⟩; rfl) (markUnresolvable_exceptAccount _)
  · rfl

theorem curtail_saw_sound {s : State} (sound : s.saw.sound) : s.curtail.saw.sound := by
  rw [curtail_saw]
  have one : ∀ (t : State) (c : Nat), t.saw.sound → (if t.short then t.curtailClass c else t).saw.sound := by
    intro t c ht
    split
    · exact curtailClass_saw_sound c ht
    · exact ht
  exact one _ 1 (one _ 2 (one _ 3 sound))

theorem rederive_saw_sound {s : State} (sound : s.saw.sound) : s.rederive.saw.sound := by
  have passed : s.enterOver.saw.sound := curtail_saw_sound sound
  unfold State.rederive
  split_ifs
  · exact sound
  · dsimp only
    split <;> exact passed
  · exact sound
  · exact sound

/-- What the choice of a turn, the beginning of an enrollment and the Apply's marks leave of a block outside theirs. -/
theorem afterPass_block {α : Type} (block : State → α)
    (left : ∀ s : State, block s.exceptTable.exceptEngine.exceptPort.exceptAccount = block s) (s : State) :
    block s.examineApply.autoEnrol.chooseTurn = block s := by
  refine block_of_blank block (fun t => t.exceptTable.exceptEngine.exceptPort.exceptAccount) left ?_
  have turn := fun t : State => congrArg State.exceptAccount (chooseTurn_exceptPort t)
  have enrolled := fun t : State => congrArg (fun u : State => u.exceptPort.exceptAccount) (autoEnrol_exceptEngine t)
  have apply := fun t : State => congrArg (fun u : State => u.exceptEngine.exceptPort) (examineApply_exceptAccount t)
  exact (turn _).trans ((enrolled _).trans (apply _))

/-- What the hand-over of the water plan leaves of a block outside its own. -/
theorem handOver_block {α : Type} (block : State → α) (left : ∀ s : State, block s.exceptTable.exceptGate = block s)
    (before s : State) : block (State.ceilingChange before (State.levelEvent before s)) = block s := by
  refine block_of_blank block (fun t => t.exceptTable.exceptGate) left ?_
  have ceiling := congrArg State.exceptTable (ceilingChange_exceptGate before (State.levelEvent before s))
  exact ceiling.trans (congrArg State.exceptGate (levelEvent_exceptTable before s))

theorem settle_saw_sound {before s : State} (sound : s.saw.sound) : (State.settle before s).saw.sound := by
  have handed := handOver_block State.saw (by rintro ⟨⟩; rfl) before s
  rw [State.settle, afterPass_block State.saw (by rintro ⟨⟩; rfl)]
  exact rederive_saw_sound (handed ▸ sound)

/-! #### Every step -/

theorem shedStep_saw_sound {s : State} (sound : s.saw.sound) : s.shedStep.saw.sound := by
  have placed : ∀ c, (s.shedPlaced c).saw = s.saw := fun c =>
    block_of_blank State.saw (fun t => t.exceptTable.exceptEngine) (by rintro ⟨⟩; rfl) (shedPlaced_exceptEngine c s)
  unfold State.shedStep
  split
  · exact sound
  · next c _ =>
    split
    · show (s.frequencyShed c).saw.sound
      rw [frequencyShed_eq]
      dsimp only
      split
      · exact sawShedOrder_saw_sound ((placed c).symm ▸ sound)
      · exact (placed c).symm ▸ sound
    · exact sound

theorem countUf_saw_sound {s : State} (under : Bool) (sound : s.saw.sound) : (s.countUf under).saw.sound := by
  cases trip : s.prot.trip with
  | true => rwa [countUf_of_trip under s trip]
  | false =>
    rw [countUf_eq under s trip]
    dsimp only
    generalize (if under = true then min 3 (s.prot.uf + 1) else 0) = n
    split
    · exact shedStep_saw_sound sound
    · exact sound

/-- A completion keeps what each of its receivers keeps. -/
theorem complete_keeps (P : State → Prop) (sense : BitVec 8) (c : Completion)
    (choices : ∀ s n, P s → P { s with choices := n })
    (governor : ∀ s prev, P s → P (s.governorTake prev sense c)) (positioner : ∀ s, P s → P s.positionerTake)
    (saw : ∀ s, P s → P s.sawTake) (protection : ∀ s, P s → P (s.protectionTake c)) {s : State} (sound : P s) :
    P (s.complete sense c) := by
  refine List.foldlRecOn (motive := P) _ _ (choices s _ sound) fun t ht r _ => ?_
  cases r with
  | governor => exact governor t _ ht
  | positioner => exact positioner t ht
  | saw => exact saw t ht
  | protection => exact protection t ht

theorem protectionTake_saw_sound {s : State} (c : Completion) (sound : s.saw.sound) : (s.protectionTake c).saw.sound := by
  unfold State.protectionTake
  dsimp only
  split
  · rwa [block_of_blank State.saw (fun t => t.exceptTable.exceptGov.exceptGate.exceptProt) (by rintro ⟨⟩; rfl)
      (tripOnset_exceptProt _)]
  · exact countUf_saw_sound _ sound

theorem complete_saw_sound {s : State} (sense : BitVec 8) (c : Completion) (sound : s.saw.sound) :
    (s.complete sense c).saw.sound := by
  refine complete_keeps (fun s => s.saw.sound) sense c (fun _ _ h => h) (fun t prev h => ?_) (fun t h => ?_)
    (fun _ h => Saw.surplusTest_sound h) (fun _ h => protectionTake_saw_sound c h) sound
  · rwa [block_of_blank State.saw (fun t => t.exceptTable.exceptGov) (by rintro ⟨⟩; rfl) (governorTake_exceptGov prev sense c t)]
  · rwa [block_of_blank State.saw State.exceptGate (by rintro ⟨⟩; rfl) (positionerTake_exceptGate t)]

theorem restoreTick_saw_sound {s : State} (sound : s.saw.sound) : s.restoreTick.saw.sound := by
  have action : ∀ t : State, t.restoreAction.saw = t.saw := fun t =>
    block_of_blank State.saw State.exceptTable (by rintro ⟨⟩; rfl) (restoreAction_exceptTable t)
  have recheck : ∀ t : State, t.saw.sound → t.recheckSaw.saw.sound := by
    intro t ht
    unfold State.recheckSaw
    split
    · next d waiting draw =>
      have range := ht.2.2.1
      rw [draw] at range
      simp at range
      split
      · exact Saw.grant_sound ht range.1 range.2 (.inr waiting)
      · exact ht
    · exact ht
  have passed : ∀ t : State, t.saw.sound → t.rederive.restoreAction.rederive.recheckSaw.saw.sound := fun t ht =>
    recheck _ (rederive_saw_sound (by rw [action]; exact rederive_saw_sound ht))
  unfold State.restoreTick
  dsimp only
  split
  · exact passed _ (curtail_saw_sound sound)
  · exact passed _ sound

theorem SettledPart.saw_sound {s u : State} (part : SettledPart s u) (sound : s.saw.sound) : u.saw.sound := by
  cases part with
  | line part => rwa [block_of_blank State.saw State.powerBlocks (by rintro ⟨⟩; rfl) part.powerBlocks]
  | complete sense c => exact complete_saw_sound sense c sound
  | slowPeriod => exact countUf_saw_sound true sound
  | restoreTick => exact restoreTick_saw_sound sound
  | debounceOver => exact debounceOver_saw_sound sound
  | waitingOver => exact waitingOver_saw_sound sound
  | preparingOver => exact preparingOver_saw_sound sound
  | idleOver => exact idleOver_saw_sound sound
  | sawGrant d idle least most => exact Saw.grant_sound sound least most (.inl idle)
  | sawStop => exact Saw.withdraw_sound sound
  | shedStep => exact shedStep_saw_sound sound
  | supplyReset => exact Saw.supplyReset_sound sound

theorem BarePart.saw_sound {s u : State} (part : BarePart s u) (sound : s.saw.sound) : u.saw.sound := by
  cases part with
  | line part => rwa [block_of_blank State.saw State.powerBlocks (by rintro ⟨⟩; rfl) part.powerBlocks]
  | raw level => exact Saw.setRaw_sound sound
  | stuck => exact stuckOver_saw_sound sound
  | wait d idle least most => exact Saw.wait_sound sound least most idle
  | sawSet nominal cls least most low high =>
    obtain ⟨consistent, reserved, draw, -, -, -, -, debounce⟩ := sound
    exact ⟨consistent, reserved, draw, least, most, low, high, debounce⟩
  | silence =>
    rwa [block_of_blank State.saw (fun t => t.exceptTable.exceptFmu.exceptProt) (by rintro ⟨⟩; rfl) (silenceOver_exceptProt s)]
  | governor part => rwa [block_of_blank State.saw (fun t => t.exceptTable.exceptGov) (by rintro ⟨⟩; rfl) part.exceptGov]
  | gate part => rwa [block_of_blank State.saw (fun t => t.exceptTable.exceptGate) (by rintro ⟨⟩; rfl) part.exceptGate]
  | _ => exact sound

/-- Beside the table and the flags, what a completion keeps: all but the engine, the governor, the gate, the saw, the protection
unit and the count of free choices. -/
def State.windowBlocks (s : State) : State :=
  { s.exceptEngine.exceptGov.exceptGate.exceptSaw.exceptProt with choices := 0 }

theorem windowBlocks_of_blank (blank : State → State) (left : ∀ s, (blank s).windowBlocks = s.exceptTable.windowBlocks)
    {s u : State} (h : blank u = blank s) : u.exceptTable.windowBlocks = s.exceptTable.windowBlocks := by
  rw [← left u, h, left]

theorem protectionTake_windowBlocks (c : Completion) (s : State) :
    (s.protectionTake c).exceptTable.windowBlocks = s.exceptTable.windowBlocks := by
  unfold State.protectionTake
  dsimp only
  split
  · exact windowBlocks_of_blank (fun t => t.exceptTable.exceptGov.exceptGate.exceptProt) (by rintro ⟨⟩; rfl)
      (tripOnset_exceptProt _)
  · exact windowBlocks_of_blank State.shedBlocks (by rintro ⟨⟩; rfl) (countUf_shedBlocks _ _)

theorem complete_windowBlocks (sense : BitVec 8) (c : Completion) (s : State) :
    (s.complete sense c).exceptTable.windowBlocks = s.exceptTable.windowBlocks :=
  complete_keeps (fun t => t.exceptTable.windowBlocks = s.exceptTable.windowBlocks) sense c (fun _ _ h => h)
    (fun t prev h => (windowBlocks_of_blank (fun t => t.exceptTable.exceptGov) (by rintro ⟨⟩; rfl)
      (governorTake_exceptGov prev sense c t)).trans h)
    (fun t h => (congrArg (fun u : State => u.exceptTable.windowBlocks) (positionerTake_exceptGate t)).trans h)
    (fun _ h => h) (fun t h => (protectionTake_windowBlocks c t).trans h) rfl

/-- What no part of an event that is settled touches: the reset in progress, the measurement, the command port and the queue
(`exceptTable` beside it adds the bits above the fourteen flags). -/
def State.surroundings (s : State) : State :=
  { State.reset with
    resetting := s.resetting
    startCause := s.startCause
    sixty := s.sixty
    fmu := s.fmu
    attn := s.attn
    host := s.host
    ranOut := s.ranOut
    pending := s.pending }

/-- Two states that are the same but for what a part may change have the same surroundings. -/
theorem surroundings_of_blank (blank : State → State) (left : ∀ s, (blank s).surroundings = s.exceptTable.surroundings)
    {s u : State} (h : blank u = blank s) : u.exceptTable.surroundings = s.exceptTable.surroundings := by
  rw [← left u, h, left]

/-- What the rows of the saw keep: all but the saw, FF and flags. -/
def State.sawBlocks (s : State) : State := s.exceptTable.exceptSaw.exceptFeed

theorem raise_sawBlocks (a : Attn) (s : State) : (s.raise a).sawBlocks = s.sawBlocks :=
  congrArg (fun t : State => t.exceptSaw.exceptFeed) (State.raise_exceptTable a s)

theorem debounceOver_sawBlocks (s : State) : s.debounceOver.sawBlocks = s.sawBlocks := by
  have unreleased : ∀ t : State, t.unreleased.sawBlocks = t.sawBlocks := fun t => by
    rw [State.unreleased, raise_sawBlocks]; rfl
  unfold State.debounceOver
  split
  · rfl
  · dsimp only
    split_ifs
    · rfl
    · unfold State.engageEdge
      dsimp only
      split
      · rfl
      · rw [unreleased]; rfl
      · rw [unreleased]; rfl
      · rw [unreleased]; rfl
      all_goals rfl
    · unfold State.disengageEdge
      dsimp only
      split
      · rfl
      · rfl
      · rw [raise_sawBlocks]; rfl
      all_goals rfl

theorem sawGivesUp_sawBlocks (e : SawEvent) (s : State) : (s.sawGivesUp e).sawBlocks = s.sawBlocks := by
  rw [State.sawGivesUp, raise_sawBlocks]; rfl

theorem waitingOver_sawBlocks (s : State) : s.waitingOver.sawBlocks = s.sawBlocks := by
  unfold State.waitingOver
  split
  · exact sawGivesUp_sawBlocks _ s
  · rfl

theorem preparingOver_sawBlocks (s : State) : s.preparingOver.sawBlocks = s.sawBlocks := by
  unfold State.preparingOver
  split
  · exact sawGivesUp_sawBlocks _ s
  · rfl

theorem idleOver_sawBlocks (s : State) : s.idleOver.sawBlocks = s.sawBlocks := by
  unfold State.idleOver
  split <;> rfl

theorem stuckOver_sawBlocks (s : State) : s.stuckOver.sawBlocks = s.sawBlocks := by
  unfold State.stuckOver
  split
  · rw [raise_sawBlocks]; rfl
  · rfl

theorem supplyReset_surroundings (s : State) : s.supplyReset.exceptTable.surroundings = s.exceptTable.surroundings := by
  have mask : ~~~supplyResetMask &&& ~~~attnMask = ~~~attnMask := by decide
  simp [State.supplyReset, State.clearAttn, State.exceptTable, State.surroundings, BitVec.and_assoc, mask]

theorem SettledPart.surroundings {s u : State} (part : SettledPart s u) :
    u.exceptTable.surroundings = s.exceptTable.surroundings := by
  cases part with
  | line part => exact surroundings_of_blank State.powerBlocks (by rintro ⟨⟩; rfl) part.powerBlocks
  | complete sense c => exact surroundings_of_blank (fun t => t.exceptTable.windowBlocks) (by rintro ⟨⟩; rfl) (complete_windowBlocks sense c s)
  | slowPeriod => exact surroundings_of_blank State.shedBlocks (by rintro ⟨⟩; rfl) (slowPeriod_shedBlocks s)
  | restoreTick =>
    exact surroundings_of_blank (fun t => t.exceptTable.exceptSaw.exceptAccount) (by rintro ⟨⟩; rfl)
      (restoreTick_exceptAccount s)
  | debounceOver => exact surroundings_of_blank State.sawBlocks (by rintro ⟨⟩; rfl) (debounceOver_sawBlocks s)
  | waitingOver => exact surroundings_of_blank State.sawBlocks (by rintro ⟨⟩; rfl) (waitingOver_sawBlocks s)
  | preparingOver => exact surroundings_of_blank State.sawBlocks (by rintro ⟨⟩; rfl) (preparingOver_sawBlocks s)
  | idleOver => exact surroundings_of_blank State.sawBlocks (by rintro ⟨⟩; rfl) (idleOver_sawBlocks s)
  | sawGrant d => rfl
  | sawStop => rfl
  | shedStep => exact surroundings_of_blank State.shedBlocks (by rintro ⟨⟩; rfl) (shedStep_shedBlocks s)
  | supplyReset => exact supplyReset_surroundings s

theorem SettledPart.resetting {s u : State} (part : SettledPart s u) : u.resetting = s.resetting :=
  block_of_blank State.resetting (fun t => t.exceptTable.surroundings) (by rintro ⟨⟩; rfl) part.surroundings

theorem BarePart.resetting {s u : State} (part : BarePart s u) : u.resetting = s.resetting := by
  cases part with
  | line part => exact block_of_blank State.resetting State.powerBlocks (by rintro ⟨⟩; rfl) part.powerBlocks
  | governor part =>
    exact block_of_blank State.resetting (fun t => t.exceptTable.exceptGov) (by rintro ⟨⟩; rfl) part.exceptGov
  | gate part =>
    exact block_of_blank State.resetting (fun t => t.exceptTable.exceptGate) (by rintro ⟨⟩; rfl) part.exceptGate
  | stuck => exact block_of_blank State.resetting State.sawBlocks (by rintro ⟨⟩; rfl) (stuckOver_sawBlocks s)
  | silence =>
    exact block_of_blank State.resetting (fun t => t.exceptTable.exceptFmu.exceptProt) (by rintro ⟨⟩; rfl)
      (silenceOver_exceptProt s)
  | _ => rfl

theorem settle_resetting (before s : State) : (State.settle before s).resetting = s.resetting :=
  block_of_blank State.resetting State.ownerBlocks (by rintro ⟨⟩; rfl) (settle_ownerBlocks before s)

theorem endReset_saw (s : State) (k : ResetKind) (nomsel shut full engaged : Bool) :
    (s.endReset k nomsel shut full engaged).saw = s.saw.foundAt engaged := by
  unfold State.endReset State.raiseIf
  cases shut && full <;> rfl

theorem endReset_resetting (s : State) (k : ResetKind) (nomsel shut full engaged : Bool) :
    (s.endReset k nomsel shut full engaged).resetting = none := by
  unfold State.endReset State.raiseIf
  cases shut && full <;> rfl

theorem count_saw_sound {s : State} (sound : s.saw.sound) : s.count.saw.sound := by
  obtain ⟨consistent, reserved, draw, low, high, cls, cls3, debounce⟩ := sound
  refine ⟨?_, reserved, draw, low, high, cls, cls3, ?_⟩
  · rw [← consistent]
    simp only [Saw.consistent, State.count, countDown, Option.isSome_map]
    rfl
  · exact Option.isSome_map.trans debounce

theorem sawSound_kept : Kept State.sawSound where
  queue _ _ _ _ _ sound := sound
  count _ _ sound := ⟨count_saw_sound sound.1, sound.2⟩
  bare s u awake part sound := ⟨part.saw_sound sound.1, by simp [part.resetting, awake]⟩
  settled s u awake part sound :=
    ⟨settle_saw_sound (part.saw_sound sound.1), by simp [settle_resetting, part.resetting, awake]⟩
  powerOn s _ := ⟨Saw.atReset_sound, fun _ => rfl⟩
  pin s _ := ⟨Saw.atReset_sound, fun _ => rfl⟩
  ended s k nomsel shut full engaged reset sound := by
    rw [State.sawSound, endReset_saw]
    exact ⟨Saw.foundAt_sound sound.1 (sound.2 (by simp [reset])), fun h => by simp [endReset_resetting] at h⟩

/-- Settles O57. -/
theorem sawStaysSound : Obligations.SawStaysSound := sawSound_kept.step

end Sys2Proof.Machine

/-! ## Proofs: the water plan (04_water_plan_and_pond_level.md) -/

namespace Sys2Proof.Machine

/-! ### The checks of a table (R58) -/

theorem planInRange_iff (bands : List Band) :
    planInRange bands = true ↔ 1 ≤ bands.length ∧ bands.length ≤ 8 ∧
      (∀ b ∈ bands, b.threshold ≤ 4000 ∧ b.ceiling ≤ 1000 ∧ b.capacity ≤ 6000) ∧
      (∀ b, bands.head? = some b → b.threshold = 0) ∧ ascending bands = true := by
  cases bands <;> simp [planInRange, and_assoc]

theorem ascending_pairwise (bands : List Band) (h : ascending bands = true) :
    bands.Pairwise (fun a b => a.threshold < b.threshold) := by
  induction bands with
  | nil => exact .nil
  | cons a rest ih =>
    cases rest with
    | nil => exact List.pairwise_singleton _ _
    | cons b rest =>
      simp only [ascending, Bool.and_eq_true, decide_eq_true_eq] at h
      have tail := ih h.2
      refine .cons (fun c hc => ?_) tail
      rcases List.mem_cons.mp hc with rfl | hc
      · exact h.1
      · exact h.1.trans (List.rel_of_pairwise_cons tail hc)

/-- R59: in an ascending table the bands at or below a level are those of the lowest numbers. -/
theorem lt_length_filter_iff (l : Nat) (bands : List Band) (sorted : bands.Pairwise fun a b => a.threshold < b.threshold)
    (i : Nat) (b : Band) (here : bands[i]? = some b) :
    i < (bands.filter fun b => decide (b.threshold ≤ l)).length ↔ b.threshold ≤ l := by
  induction bands generalizing i with
  | nil => simp at here
  | cons a rest ih =>
    obtain ⟨least, sorted⟩ := List.pairwise_cons.mp sorted
    by_cases low : a.threshold ≤ l
    · rw [List.filter_cons_of_pos (by simpa using low), List.length_cons]
      cases i with
      | zero => simp_all
      | succ i => rw [Nat.add_lt_add_iff_right]; exact ih sorted i (by simpa using here)
    · have none : rest.filter (fun b => decide (b.threshold ≤ l)) = [] := by
        simp only [List.filter_eq_nil_iff, decide_eq_true_eq]
        intro c hc
        have := least c hc
        omega
      rw [List.filter_cons_of_neg (by simpa using low), none]
      cases i with
      | zero => simp_all
      | succ i =>
        have := least b (List.mem_of_getElem? (by simpa using here))
        simp
        omega

/-! ### The band in force (R59, R62) -/

theorem highestBand_iff (bands : List Band) (range : planInRange bands = true) (l i : Nat) (b : Band)
    (here : bands[i]? = some b) : i + 1 ≤ highestBand bands l ↔ b.threshold ≤ l := by
  obtain ⟨some, -, -, first, sorted⟩ := (planInRange_iff bands).mp range
  have known := lt_length_filter_iff l bands (ascending_pairwise bands sorted)
  have lowest := known 0 (bands[0]) (by simp)
  have zero : bands[0].threshold = 0 := first _ (by cases bands <;> simp_all)
  have := known i b here
  unfold highestBand
  omega

theorem highestBand_range (bands : List Band) (range : planInRange bands = true) (l : Nat) :
    1 ≤ highestBand bands l ∧ highestBand bands l ≤ bands.length := by
  obtain ⟨some, -⟩ := (planInRange_iff bands).mp range
  have := List.length_filter_le (fun b : Band => decide (b.threshold ≤ l)) bands
  unfold highestBand
  omega

theorem choose_range (w : Water) (bands : List Band) (range : planInRange bands = true) :
    1 ≤ w.choose bands ∧ w.choose bands ≤ bands.length := by
  have some := ((planInRange_iff bands).mp range).1
  unfold Water.choose
  split
  · exact highestBand_range bands range _
  · exact highestBand_range bands range _
  all_goals exact ⟨le_refl 1, some⟩

/-- R62, Up: the band rises to one whose next threshold the level does not pass by the margin. -/
theorem bandUp_spec (p : WaterPlan) (l k b : Nat) (most : b ≤ p.bands.length) (fuel : p.bands.length ≤ b + k) :
    let q := bandUp p l k b
    b ≤ q ∧ q ≤ p.bands.length ∧ (b < q → (p.band q).threshold + upMargin ≤ l) ∧
      (q < p.bands.length → l < (p.band (q + 1)).threshold + upMargin) := by
  induction k generalizing b with
  | zero => exact ⟨le_refl b, most, fun h => absurd h (lt_irrefl b), fun h => absurd h (by simp [bandUp]; omega)⟩
  | succ k ih =>
    unfold bandUp
    split
    · next rises =>
      simp only [Bool.and_eq_true, decide_eq_true_eq] at rises
      obtain ⟨up, top, passed, next⟩ := ih (b + 1) (by omega) (by omega)
      refine ⟨by omega, top, fun _ => ?_, next⟩
      by_cases more : b + 1 < bandUp p l k (b + 1)
      · exact passed more
      · have : bandUp p l k (b + 1) = b + 1 := by omega
        rw [this]
        exact rises.2
    · next stands =>
      simp only [Bool.and_eq_true, decide_eq_true_eq, not_and] at stands
      exact ⟨le_refl b, most, fun h => absurd h (lt_irrefl b), fun h => by have := stands h; omega⟩

/-- R62, Down: the band falls to one whose threshold the level reaches, or to band 1. -/
theorem bandDown_spec (p : WaterPlan) (l k b : Nat) (least : 1 ≤ b) (fuel : b ≤ k) :
    let q := bandDown p l k b
    1 ≤ q ∧ q ≤ b ∧ (1 < q → (p.band q).threshold ≤ l) ∧ (q < b → l < (p.band (q + 1)).threshold) := by
  induction k generalizing b with
  | zero => omega
  | succ k ih =>
    unfold bandDown
    split
    · next falls =>
      simp only [Bool.and_eq_true, decide_eq_true_eq] at falls
      obtain ⟨low, down, reached, next⟩ := ih (b - 1) (by omega) (by omega)
      refine ⟨low, by omega, reached, fun _ => ?_⟩
      by_cases more : bandDown p l k (b - 1) < b - 1
      · exact next more
      · have : bandDown p l k (b - 1) + 1 = b := by omega
        rw [this]
        exact falls.2
    · next stands =>
      simp only [Bool.and_eq_true, decide_eq_true_eq, not_and] at stands
      exact ⟨least, le_refl b, fun h => by have := stands h; omega, fun h => absurd h (lt_irrefl b)⟩

/-- R58: the first threshold of a sound plan is 0. -/
theorem WaterPlan.threshold_one (p : WaterPlan) (sound : p.sound = true) : (p.band 1).threshold = 0 := by
  simp only [WaterPlan.sound, Bool.and_eq_true, decide_eq_true_eq] at sound
  obtain ⟨some, -, -, first, -⟩ := (planInRange_iff p.bands).mp sound.1
  refine first _ ?_
  unfold WaterPlan.band
  cases h : p.bands <;> simp_all

theorem WaterPlan.sound_iff (p : WaterPlan) :
    p.sound = true ↔ planInRange p.bands = true ∧ 1 ≤ p.inForce ∧ p.inForce ≤ p.bands.length := by
  simp [WaterPlan.sound]

/-- A band whose threshold the level reaches does not fall. -/
theorem bandDown_of_reached (p : WaterPlan) (l k b : Nat) (reached : (p.band b).threshold ≤ l) : bandDown p l k b = b := by
  cases k with
  | zero => rfl
  | succ k =>
    unfold bandDown
    rw [if_neg]
    simp only [Bool.and_eq_true, decide_eq_true_eq, not_and, Nat.not_lt]
    exact fun _ => reached

/-- R62: the band in force after a level. -/
theorem WaterPlan.follow_spec (p : WaterPlan) (l : Nat) (sound : p.sound = true) :
    let b := p.inForce
    let q := (p.follow l).inForce
    1 ≤ q ∧ q ≤ p.bands.length ∧
      (b < q → (p.band q).threshold + 20 ≤ l ∧ (q < p.bands.length → l < (p.band (q + 1)).threshold + 20)) ∧
      (q < b → l < (p.band (q + 1)).threshold ∧ (p.band q).threshold ≤ l) ∧
      (q = b → (p.band b).threshold ≤ l ∧ (b < p.bands.length → l < (p.band (b + 1)).threshold + 20)) := by
  have zero := p.threshold_one sound
  obtain ⟨-, least, most⟩ := p.sound_iff.mp sound
  obtain ⟨up, top, passed, next⟩ := bandUp_spec p l p.bands.length p.inForce most (by omega)
  obtain ⟨low, down, reached, below⟩ :=
    bandDown_spec p l p.bands.length (bandUp p l p.bands.length p.inForce) (by omega) top
  have stands := bandDown_of_reached p l p.bands.length (bandUp p l p.bands.length p.inForce)
  have margin : upMargin = 20 := rfl
  rw [margin] at passed next
  intro b q
  have whole : q = bandDown p l p.bands.length (bandUp p l p.bands.length p.inForce) := rfl
  clear_value q
  subst whole
  generalize bandUp p l p.bands.length p.inForce = u at *
  generalize bandDown p l p.bands.length u = q at *
  have reached : (p.band q).threshold ≤ l := by
    rcases Nat.lt_or_ge 1 q with h | h
    · exact reached h
    · rw [show q = 1 by omega, zero]
      exact Nat.zero_le l
  -- A band that has risen has its threshold passed by the margin, and so does not fall again.
  have risen : p.inForce < u → q = u := fun rose => stands (by have := passed rose; omega)
  refine ⟨low, by omega, fun rose => ?_, fun fell => ⟨below (by omega), reached⟩, fun same => ?_⟩
  · have whole := risen (by omega)
    subst whole
    exact ⟨passed rose, next⟩
  · have whole : u = p.inForce := by
      by_contra other
      have := risen (by omega)
      omega
    subst whole
    exact ⟨same ▸ reached, next⟩

/-! ### The water plan stays sound (R57 to R64) -/

/-- R57, R58: a plan, where one is present, passes its checks. -/
theorem Water.plan_sound {w : Water} (sound : w.sound) (p : WaterPlan) (here : w.plan = some p) : p.sound = true := by
  have := sound.1
  rwa [here] at this

theorem WaterPlan.follow_sound (p : WaterPlan) (l : Nat) (sound : p.sound = true) : (p.follow l).sound = true := by
  obtain ⟨least, most, -⟩ := p.follow_spec l sound
  exact (WaterPlan.sound_iff _).mpr ⟨(p.sound_iff.mp sound).1, least, most⟩

/-- R60, R64: band 1 of a sound plan. -/
theorem Water.toBandOne_plan (w : Water) (sound : w.sound) : w.toBandOne.plan.all WaterPlan.sound = true := by
  cases here : w.plan with
  | none => simp [Water.toBandOne, here]
  | some p =>
    obtain ⟨range, -⟩ := p.sound_iff.mp (w.plan_sound sound p here)
    have some := ((planInRange_iff p.bands).mp range).1
    simpa [Water.toBandOne, here, WaterPlan.sound_iff] using ⟨range, some⟩

theorem Water.gaugeAppears_sound {w : Water} (sound : w.sound) : w.gaugeAppears.sound :=
  ⟨sound.1, rfl, rfl, rfl⟩

theorem Water.gaugeGone_sound {w : Water} (sound : w.sound) : w.gaugeGone.sound :=
  ⟨w.toBandOne_plan sound, rfl, rfl, rfl⟩

theorem Water.receive_sound {w : Water} (l : Nat) (sound : w.sound) : (w.receive l).sound := by
  refine ⟨?_, rfl, by simp [Water.receive], by simp [Water.receive]⟩
  cases here : w.plan with
  | none => simp [Water.receive, here]
  | some p => simpa [Water.receive, here] using p.follow_sound _ (w.plan_sound sound p here)

theorem Water.gaugeSilent_sound {w : Water} (sound : w.sound) : w.gaugeSilent.sound := by
  have ⟨plan, level, low, _⟩ := sound
  unfold Water.gaugeSilent
  split
  · next live => exact ⟨plan, by rw [level, live]; rfl, low, rfl⟩
  all_goals exact sound

theorem Water.holdOver_sound {w : Water} (sound : w.sound) : w.holdOver.sound := by
  have one := w.toBandOne_plan sound
  have ⟨_, level, low, _⟩ := sound
  unfold Water.holdOver
  split
  · next holding => exact ⟨one, by simpa [Water.toBandOne, holding, LevelSource.hasLevel] using level, low, rfl⟩
  all_goals exact sound

theorem Water.load_sound {w : Water} (bands : List Band) (range : planInRange bands = true) (sound : w.sound) :
    (w.load bands).sound := by
  obtain ⟨-, level, low, hold⟩ := sound
  refine ⟨?_, level, low, hold⟩
  simpa [Water.load, WaterPlan.sound_iff] using ⟨range, choose_range w bands range⟩

/-! #### Through the operations on records and replies -/

/-- The water plan is the same where the states are, but for the table and the engine. -/
theorem water_of_exceptEngine {s u : State} (h : u.exceptTable.exceptEngine = s.exceptTable.exceptEngine) :
    u.water = s.water :=
  block_of_blank State.water (fun t => t.exceptTable.exceptEngine) (by rintro ⟨⟩; rfl) h

theorem water_of_exceptTable {s u : State} (h : u.exceptTable = s.exceptTable) : u.water = s.water :=
  block_of_blank State.water State.exceptTable (by rintro ⟨⟩; rfl) h

@[simp] theorem markChanged_water (n : Slot) (s : State) : (s.markChanged n).water = s.water :=
  water_of_exceptTable (markChanged_exceptTable n s)

@[simp] theorem setStation_water (n : Slot) (st : Station) (s : State) : (s.setStation n st).water = s.water := rfl

theorem vacate_water_sound {s : State} (n : Slot) (sound : s.water.sound) : (s.vacate n).water.sound := by
  unfold State.vacate
  split
  · exact sound
  · dsimp only
    split
    · exact sound
    · exact Water.gaugeGone_sound sound

theorem muteSent_water_sound {s : State} (x : Serial) (sound : s.water.sound) : (s.muteSent x).water.sound := by
  unfold State.muteSent
  split
  · split
    · split
      · rw [markChanged_water]; exact vacate_water_sound _ sound
      · exact sound
    · exact sound
  · exact sound

theorem makeSilent_water_sound {s : State} (n : Slot) (sound : s.water.sound) : (s.makeSilent n).water.sound := by
  unfold State.makeSilent
  split
  · dsimp only
    split
    · rwa [markChanged_water]
    · rw [markChanged_water]; exact Water.gaugeSilent_sound sound
  · exact sound

theorem linkSilent_water_sound {s : State} (n : Slot) (sound : s.water.sound) : (s.linkSilent n).water.sound := by
  unfold State.linkSilent
  split
  · split
    · exact makeSilent_water_sound n sound
    · exact sound
  · exact sound

theorem missedReply_water_sound {s : State} (n : Slot) (order : Bool) (sound : s.water.sound) :
    (s.missedReply n order).water.sound := by
  have missed : ∀ st : Station, (if st.silence.isNone && decide (2 ≤ st.missed) then s.makeSilent n
      else s.setStation n { st with missed := min 3 (st.missed + 1) }).water.sound := fun st => by
    split
    · exact makeSilent_water_sound n sound
    · exact sound
  unfold State.missedReply
  split
  · split
    · dsimp only
      split
      · rw [water_of_exceptTable (deferPush_exceptTable n _)]; exact missed _
      · exact missed _
    · exact sound
  · exact sound

theorem report_water_sound {s : State} (n : Slot) (c : Content) (sound : s.water.sound) : (s.report n c).water.sound := by
  cases c with
  | service a d trip =>
    simp only [State.report]
    rwa [water_of_exceptEngine (serviceReport_exceptEngine n a d trip s)]
  | gauge l =>
    simp only [State.report, State.gaugeReport]
    split
    · split
      · exact Water.receive_sound l ((water_of_exceptTable (linkAnswered_exceptTable n s)).symm ▸ sound)
      · exact sound
    · exact sound

theorem enrol_water_sound {s : State} (n : Slot) (st : Station) (c : Content) (sound : s.water.sound) :
    (s.enrol n st c).water.sound := by
  unfold State.enrol
  split
  · dsimp only
    rw [markChanged_water]
    split <;> exact sound
  · dsimp only
    rw [markChanged_water]
    exact Water.receive_sound _ sound
  · exact sound

theorem takeReply_water_sound {s : State} (x : Serial) (n : Slot) (c : Content) (sound : s.water.sound) :
    (s.takeReply x n c).water.sound := by
  have mute : (s.placeMute x).water.sound := by rwa [water_of_exceptEngine (placeMute_exceptEngine x s)]
  unfold State.takeReply
  split
  · split
    · split
      · exact enrol_water_sound n _ c sound
      · exact report_water_sound n c sound
      · exact report_water_sound n c sound
    · exact mute
  · exact mute

theorem assignTaken_water_sound {s : State} (x : Serial) (n : Slot) (c : Content) (sound : s.water.sound) :
    (s.assignTaken x n c).water.sound := by
  unfold State.assignTaken
  split
  · rw [water_of_exceptEngine (placeFreed_exceptEngine _)]
    exact takeReply_water_sound (s := s.withEngine _) x n c sound
  · exact takeReply_water_sound x n c sound

theorem outcome_water_sound {s : State} (t : Turn) (h : Heard) (sound : s.water.sound) : (s.outcome t h).water.sound := by
  unfold State.outcome
  split
  · split
    · exact report_water_sound (s := s) _ _ sound
    · exact missedReply_water_sound _ _ sound
  · split
    · dsimp only
      split
      · exact report_water_sound (s := s) _ _ sound
      · exact report_water_sound _ _ sound
    · exact missedReply_water_sound _ _ sound
  · split
    · exact assignTaken_water_sound _ _ _ sound
    · rwa [water_of_exceptEngine (assignMissed_exceptEngine _ _ s)]
  · rwa [water_of_exceptEngine ((endIfDone_exceptEngine _).trans (rollClass_exceptEngine _ _ s))]
  all_goals exact sound

theorem handOutcome_water_sound {s : State} (h : Heard) (sound : s.water.sound) : (s.handOutcome h).water.sound := by
  unfold State.handOutcome
  split
  · split
    · exact sound
    · exact outcome_water_sound _ h sound
  · exact sound

theorem handSent_water_sound {s : State} (sound : s.water.sound) : s.handSent.water.sound := by
  unfold State.handSent
  split
  · split
    · exact sound
    · unfold State.sent
      split
      · exact sound
      · exact muteSent_water_sound _ sound
      all_goals exact sound
  · exact sound

theorem provision_water_sound {s : State} (n : Slot) (kind : Kind) (x : Serial) (cls limit : Nat) (connect : Bool)
    (sound : s.water.sound) : (s.provision n kind x cls limit connect).water.sound := by
  have claimed : ∀ t : State, t.water.sound →
      (if s.engine.strays.contains x then t.withEngine (Engine.claim x n) else t).water.sound := fun t ht => by
    split <;> exact ht
  unfold State.provision
  cases kind with
  | service => exact claimed _ sound
  | gauge => exact Water.gaugeAppears_sound (claimed _ sound)

theorem LinePart.water_sound {s u : State} (part : LinePart s u) (sound : s.water.sound) : u.water.sound := by
  cases part with
  | provision n kind x cls limit connect => exact provision_water_sound n kind x cls limit connect sound
  | vacate n => exact vacate_water_sound n sound
  | retire n st => rwa [water_of_exceptEngine (retire_exceptEngine n st s)]
  | linkSilent n => exact linkSilent_water_sound n sound
  | silenceLimit n => rwa [water_of_exceptTable (silenceLimit_exceptTable n s)]
  | apply scope sc =>
    rwa [block_of_blank State.water (fun t => t.exceptTable.exceptAccount) (by rintro ⟨⟩; rfl)
      (startApply_exceptAccount scope sc s)]
  | transmissionOver =>
    unfold State.transmissionOver
    split
    · split
      · exact sound
      · exact handSent_water_sound sound
    · exact sound
  | windowOver =>
    unfold State.windowOver
    split
    · exact handOutcome_water_sound _ sound
    · exact sound
  | replyOver =>
    unfold State.replyOver
    split
    · exact handOutcome_water_sound _ sound
    · exact sound
  | replyTooLong =>
    unfold State.replyTooLong
    split
    · exact handOutcome_water_sound _ sound
    · exact sound
  | turnOver =>
    unfold State.turnOver
    split
    · dsimp only
      split
      · rw [water_of_exceptEngine (completeStop_exceptEngine _)]; exact sound
      · exact sound
    · exact sound
  | lineStop =>
    unfold State.stopLine
    split
    · rwa [water_of_exceptEngine (completeStop_exceptEngine _)]
    · exact sound
  | stopCompletes => rwa [water_of_exceptEngine (completeStop_exceptEngine s)]
  | abandon x => rwa [water_of_exceptEngine (abandonSerial_exceptEngine x s)]
  | autoEnrol => rwa [water_of_exceptEngine (autoEnrol_exceptEngine s)]
  | planLoad bands range => exact Water.load_sound bands range sound
  | holdOver => exact Water.holdOver_sound sound
  | _ => exact sound

end Sys2Proof.Machine

/-! ## Proofs: the measurement, the water plan and the alarms stay sound -/

namespace Sys2Proof.Machine

/-! ### The water plan -/

/-- What a part that is settled keeps of the water plan. -/
theorem SettledPart.water_sound {s u : State} (part : SettledPart s u) (sound : s.water.sound) : u.water.sound := by
  have saw : u.sawBlocks = s.sawBlocks → u.water = s.water := block_of_blank State.water State.sawBlocks (by rintro ⟨⟩; rfl)
  have shed : u.shedBlocks = s.shedBlocks → u.water = s.water :=
    block_of_blank State.water State.shedBlocks (by rintro ⟨⟩; rfl)
  cases part with
  | line part => exact part.water_sound sound
  | complete sense c =>
    rwa [block_of_blank State.water (fun t => t.exceptTable.windowBlocks) (by rintro ⟨⟩; rfl) (complete_windowBlocks sense c s)]
  | slowPeriod => rwa [shed (slowPeriod_shedBlocks s)]
  | restoreTick =>
    rwa [block_of_blank State.water (fun t => t.exceptTable.exceptSaw.exceptAccount) (by rintro ⟨⟩; rfl)
      (restoreTick_exceptAccount s)]
  | debounceOver => rwa [saw (debounceOver_sawBlocks s)]
  | waitingOver => rwa [saw (waitingOver_sawBlocks s)]
  | preparingOver => rwa [saw (preparingOver_sawBlocks s)]
  | idleOver => rwa [saw (idleOver_sawBlocks s)]
  | sawGrant d => exact sound
  | sawStop => exact sound
  | shedStep => rwa [shed (shedStep_shedBlocks s)]
  | supplyReset => exact Water.gaugeGone_sound sound

theorem BareLinePart.water {s u : State} (part : BareLinePart s u) : u.water = s.water := by
  cases part with
  | recloseDue n => exact water_of_exceptTable (recloseDue_exceptTable n s)
  | liveLimit n => exact water_of_exceptTable (liveLimit_exceptTable n s)
  | applyDone =>
    exact block_of_blank State.water (fun t => t.exceptTable.exceptAccount) (by rintro ⟨⟩; rfl) (applyDone_exceptAccount s)
  | turn =>
    exact block_of_blank State.water (fun t => t.exceptTable.exceptEngine.exceptPort) (by rintro ⟨⟩; rfl)
      (chooseTurn_exceptPort s)
  | _ => rfl

theorem BarePart.water {s u : State} (part : BarePart s u) : u.water = s.water := by
  cases part with
  | line part => exact part.water
  | governor part => exact block_of_blank State.water (fun t => t.exceptTable.exceptGov) (by rintro ⟨⟩; rfl) part.exceptGov
  | gate part => exact block_of_blank State.water (fun t => t.exceptTable.exceptGate) (by rintro ⟨⟩; rfl) part.exceptGate
  | stuck => exact block_of_blank State.water State.sawBlocks (by rintro ⟨⟩; rfl) (stuckOver_sawBlocks s)
  | silence =>
    exact block_of_blank State.water (fun t => t.exceptTable.exceptFmu.exceptProt) (by rintro ⟨⟩; rfl)
      (silenceOver_exceptProt s)
  | _ => rfl

theorem settle_water (before s : State) : (State.settle before s).water = s.water :=
  block_of_blank State.water State.ownerBlocks (by rintro ⟨⟩; rfl) (settle_ownerBlocks before s)

/-! ### The protection unit (R169 to R177) -/

/-- What `State.alarmsSound` says of the protection unit. -/
def Protection.sound (p : Protection) : Prop :=
  p.uf ≤ 3 ∧ (p.trip = true → p.uf = 0) ∧ 2000 ≤ p.tripOffset ∧ p.tripOffset ≤ 8000 ∧ 300 ≤ p.ufOffset ∧
    p.ufOffset ≤ 3000 ∧ 1 ≤ p.shedInterval ∧ p.shedInterval ≤ 10

theorem alarmsSound_iff (s : State) : s.alarmsSound ↔ s.attn &&& ~~~attnMask = 0 ∧ s.prot.sound := Iff.rfl

theorem Protection.noUf_sound {p : Protection} (sound : p.sound) : { p with uf := 0 }.sound :=
  ⟨Nat.zero_le 3, fun _ => rfl, sound.2.2⟩

theorem frequencyShed_prot (c : Nat) (s : State) : (s.frequencyShed c).prot = { s.prot with
    lastStep := some (.shed c (s.shedList c).length (shedAmount (s.shedList c))) } := by
  have placed : (s.shedPlaced c).prot = s.prot :=
    block_of_blank State.prot (fun t => t.exceptTable.exceptEngine) (by rintro ⟨⟩; rfl) (shedPlaced_exceptEngine c s)
  have saw : ∀ t : State, t.sawShedOrder.prot = t.prot := fun t =>
    block_of_blank State.prot (fun t => t.exceptTable.exceptSaw) (by rintro ⟨⟩; rfl) (sawShedOrder_exceptSaw t)
  rw [frequencyShed_eq]
  dsimp only
  split
  · rw [saw, placed]
  · rw [placed]

/-- R174: a shed step starts the interval, clears the UF count and is recorded. -/
theorem shedStep_prot (s : State) : ∃ o, s.shedStep.prot = { s.prot with
    lastStep := some o, interval := some (s.prot.shedInterval * 1000000), uf := 0 } := by
  unfold State.shedStep
  split
  · exact ⟨_, rfl⟩
  · next c _ =>
    split
    · rw [State.endShedStep, frequencyShed_prot]; exact ⟨_, rfl⟩
    · exact ⟨_, rfl⟩

theorem shedStep_prot_sound {s : State} (sound : s.prot.sound) : s.shedStep.prot.sound := by
  obtain ⟨o, prot⟩ := shedStep_prot s
  rw [prot]
  exact Protection.noUf_sound sound

theorem countUf_prot_sound {s : State} (under : Bool) (sound : s.prot.sound) : (s.countUf under).prot.sound := by
  cases trip : s.prot.trip with
  | true => rwa [countUf_of_trip under s trip]
  | false =>
    rw [countUf_eq under s trip]
    have counted : ∀ n, n ≤ 3 → { s.prot with uf := n }.sound := fun n small =>
      ⟨small, fun h => by simp [trip] at h, sound.2.2⟩
    have counted := counted (if under = true then min 3 (s.prot.uf + 1) else 0) (by split <;> omega)
    dsimp only
    generalize (if under = true then min 3 (s.prot.uf + 1) else 0) = n at counted
    split
    · exact shedStep_prot_sound counted
    · exact counted

theorem Protection.settle_sound {p : Protection} (good : Bool) (sound : p.sound) : (p.settle good).sound := by
  unfold Protection.settle
  split
  · split <;> exact sound
  · exact sound

theorem tripOnset_prot (s : State) : s.tripOnset.prot = { s.prot with trip := true, uf := 0 } := by
  rw [State.tripOnset, State.raise_prot, block_of_blank State.prot State.exceptTable (by rintro ⟨⟩; rfl) (raiseAll_exceptTable _ _)]

theorem protectionTake_prot_sound {s : State} (c : Completion) (sound : s.prot.sound) : (s.protectionTake c).prot.sound := by
  have settled := Protection.settle_sound (decide (s.fset - settledMargin ≤ (c.f : Int))) sound
  unfold State.protectionTake
  dsimp only
  split
  · rw [tripOnset_prot]; exact ⟨Nat.zero_le 3, fun _ => rfl, settled.2.2⟩
  · exact countUf_prot_sound _ settled

theorem complete_prot_sound {s : State} (sense : BitVec 8) (c : Completion) (sound : s.prot.sound) :
    (s.complete sense c).prot.sound := by
  refine complete_keeps (fun s => s.prot.sound) sense c (fun _ _ h => h) (fun t prev h => ?_) (fun t h => ?_)
    (fun _ h => h) (fun _ h => protectionTake_prot_sound c h) sound
  · rwa [block_of_blank State.prot (fun t => t.exceptTable.exceptGov) (by rintro ⟨⟩; rfl) (governorTake_exceptGov prev sense c t)]
  · rwa [block_of_blank State.prot State.exceptGate (by rintro ⟨⟩; rfl) (positionerTake_exceptGate t)]

theorem SettledPart.prot_sound {s u : State} (part : SettledPart s u) (sound : s.prot.sound) : u.prot.sound := by
  have saw : u.sawBlocks = s.sawBlocks → u.prot = s.prot := block_of_blank State.prot State.sawBlocks (by rintro ⟨⟩; rfl)
  cases part with
  | line part => rwa [block_of_blank State.prot State.powerBlocks (by rintro ⟨⟩; rfl) part.powerBlocks]
  | complete sense c => exact complete_prot_sound sense c sound
  | slowPeriod => exact countUf_prot_sound true sound
  | restoreTick =>
    rwa [block_of_blank State.prot (fun t => t.exceptTable.exceptSaw.exceptAccount) (by rintro ⟨⟩; rfl)
      (restoreTick_exceptAccount s)]
  | debounceOver => rwa [saw (debounceOver_sawBlocks s)]
  | waitingOver => rwa [saw (waitingOver_sawBlocks s)]
  | preparingOver => rwa [saw (preparingOver_sawBlocks s)]
  | idleOver => rwa [saw (idleOver_sawBlocks s)]
  | sawGrant d => exact sound
  | sawStop => exact sound
  | shedStep => exact shedStep_prot_sound sound
  | supplyReset => exact Protection.noUf_sound sound

theorem BarePart.prot_sound {s u : State} (part : BarePart s u) (sound : s.prot.sound) : u.prot.sound := by
  cases part with
  | line part => rwa [block_of_blank State.prot State.powerBlocks (by rintro ⟨⟩; rfl) part.powerBlocks]
  | governor part => rwa [block_of_blank State.prot (fun t => t.exceptTable.exceptGov) (by rintro ⟨⟩; rfl) part.exceptGov]
  | gate part => rwa [block_of_blank State.prot (fun t => t.exceptTable.exceptGate) (by rintro ⟨⟩; rfl) part.exceptGate]
  | stuck => rwa [block_of_blank State.prot State.sawBlocks (by rintro ⟨⟩; rfl) (stuckOver_sawBlocks s)]
  | silence =>
    unfold State.silenceOver
    split
    · exact sound
    · exact Protection.noUf_sound sound
  | settledOver =>
    unfold Protection.settledOver
    split <;> exact sound
  | tripClear =>
    obtain ⟨low, -, ranges⟩ := sound
    exact ⟨low, fun h => by simp at h, ranges⟩
  | protSet fset tripOffset ufOffset interval range =>
    obtain ⟨low, clear, -⟩ := sound
    simp only [protInRange, Bool.and_eq_true, decide_eq_true_eq] at range
    obtain ⟨⟨⟨t1, t2⟩, u1, u2⟩, i1, i2⟩ := range
    exact ⟨low, clear, t1, t2, u1, u2, i1, i2⟩
  | _ => exact sound

theorem Protection.atReset_sound : Protection.atReset.sound := by
  simp [Protection.sound, Protection.atReset]

/-! ### The attention set (R182) -/

theorem SettledPart.attn {s u : State} (part : SettledPart s u) (clear : s.attn &&& ~~~attnMask = 0) :
    u.attn &&& ~~~attnMask = 0 :=
  (congrArg State.attn part.surroundings).trans clear

theorem silenceOver_attn (s : State) : s.silenceOver.attn &&& ~~~attnMask = s.attn &&& ~~~attnMask :=
  congrArg State.attn (silenceOver_exceptProt s)

theorem BarePart.attn {s u : State} (part : BarePart s u) (clear : s.attn &&& ~~~attnMask = 0) :
    u.attn &&& ~~~attnMask = 0 := by
  cases part with
  | line part => exact (congrArg State.attn part.powerBlocks).trans clear
  | governor part => exact (congrArg State.attn part.exceptGov).trans clear
  | gate part => exact (congrArg State.attn part.exceptGate).trans clear
  | stuck => exact (congrArg State.attn (stuckOver_sawBlocks s)).trans clear
  | silence => exact (silenceOver_attn s).trans clear
  | clearAttn mask =>
    rw [State.clearAttn_attn, BitVec.and_assoc, BitVec.and_comm (~~~mask), ← BitVec.and_assoc, clear]
    exact BitVec.zero_and
  | _ => exact clear

theorem settle_attn (before s : State) : (State.settle before s).attn &&& ~~~attnMask = s.attn &&& ~~~attnMask :=
  congrArg State.attn (settle_ownerBlocks before s)

theorem settle_prot (before s : State) : (State.settle before s).prot = s.prot :=
  block_of_blank State.prot State.ownerBlocks (by rintro ⟨⟩; rfl) (settle_ownerBlocks before s)

/-! ### The measurement (R2 to R10) -/

theorem SettledPart.fmu {s u : State} (part : SettledPart s u) : u.fmu = s.fmu :=
  block_of_blank State.fmu (fun t => t.exceptTable.surroundings) (by rintro ⟨⟩; rfl) part.surroundings

theorem settle_fmu (before s : State) : (State.settle before s).fmu = s.fmu :=
  block_of_blank State.fmu State.ownerBlocks (by rintro ⟨⟩; rfl) (settle_ownerBlocks before s)

/-- The measurement's soundness speaks of the measurement and the reset in progress. -/
theorem fmuSound_of_eq {s u : State} (fmu : u.fmu = s.fmu) (resetting : u.resetting = s.resetting) (sound : s.fmuSound) :
    u.fmuSound := by
  unfold State.fmuSound at *
  rw [fmu, resetting]
  exact sound

theorem silenceOver_fmuSound {s : State} (awake : s.awake) (sound : s.fmuSound) : s.silenceOver.fmuSound := by
  unfold State.silenceOver
  split
  · exact sound
  · obtain ⟨-, -, -, -, last, -, -⟩ := sound
    refine ⟨by simp [State.signalLoss], by simp [State.signalLoss], Nat.zero_le 3, by simp [State.signalLoss], last,
      by simp [State.signalLoss], fun h => ?_⟩
    rw [State.signalLoss, State.raise_resetting] at h
    simp [awake] at h

theorem BarePart.fmuSound {s u : State} (awake : s.awake) (part : BarePart s u) (sound : s.fmuSound) : u.fmuSound := by
  cases part with
  | measured f kept => exact kept sound
  | silence => exact silenceOver_fmuSound awake sound
  | line part =>
    exact fmuSound_of_eq (block_of_blank State.fmu State.powerBlocks (by rintro ⟨⟩; rfl) part.powerBlocks)
      (BarePart.line part).resetting sound
  | governor part =>
    exact fmuSound_of_eq (block_of_blank State.fmu (fun t => t.exceptTable.exceptGov) (by rintro ⟨⟩; rfl) part.exceptGov)
      (BarePart.governor part).resetting sound
  | gate part =>
    exact fmuSound_of_eq (block_of_blank State.fmu (fun t => t.exceptTable.exceptGate) (by rintro ⟨⟩; rfl) part.exceptGate)
      (BarePart.gate part).resetting sound
  | stuck =>
    exact fmuSound_of_eq (block_of_blank State.fmu State.sawBlocks (by rintro ⟨⟩; rfl) (stuckOver_sawBlocks s))
      BarePart.stuck.resetting sound
  | _ => exact sound

/-! ### Every step -/

/-- What O53 asks of the three blocks. -/
def State.measuresSound (s : State) : Prop := s.fmuSound ∧ s.water.sound ∧ s.alarmsSound

theorem count_water_sound {s : State} (sound : s.water.sound) : s.count.water.sound := by
  obtain ⟨plan, level, low, hold⟩ := sound
  exact ⟨plan, level, low, Option.isSome_map.trans hold⟩

theorem count_fmuSound {s : State} (sound : s.fmuSound) : s.count.fmuSound := by
  obtain ⟨tracking, lost, short, window, last, silence, reset⟩ := sound
  exact ⟨tracking, lost, short, window, last, Option.isSome_map.trans silence, reset⟩

theorem endReset_alarmsSound {s : State} (k : ResetKind) (nomsel shut full engaged : Bool) (sound : s.alarmsSound) :
    (s.endReset k nomsel shut full engaged).alarmsSound := by
  unfold State.endReset
  refine ⟨?_, ?_⟩
  · exact (congrArg State.attn (State.raiseIf_exceptTable _ _ _)).trans sound.1
  · cases shut <;> cases full <;> exact sound.2

theorem endReset_fmu (s : State) (k : ResetKind) (nomsel shut full engaged : Bool) :
    (s.endReset k nomsel shut full engaged).fmu = { s.fmu with silence := some Config.silenceTime } := by
  unfold State.endReset State.raiseIf
  cases shut && full <;> rfl

theorem endReset_water (s : State) (k : ResetKind) (nomsel shut full engaged : Bool) :
    (s.endReset k nomsel shut full engaged).water = s.water := by
  unfold State.endReset State.raiseIf
  cases shut && full <;> rfl

theorem endReset_fmuSound {s : State} (k : ResetKind) (nomsel shut full engaged : Bool) (reset : s.resetting = some k)
    (sound : s.fmuSound) : (s.endReset k nomsel shut full engaged).fmuSound := by
  obtain ⟨tracking, -, short, window, last, -, unlost⟩ := sound
  have unlost := unlost (by rw [reset]; rfl)
  unfold State.fmuSound
  rw [endReset_fmu, endReset_resetting]
  exact ⟨tracking, fun h => absurd h unlost, short, window, last, by simp [unlost], by simp⟩

theorem atReset_fmuSound {s : State} (fmu : s.fmu = Fmu.atReset) (reset : s.resetting.isSome = true) : s.fmuSound := by
  have busy : s.resetting ≠ none := by intro h; simp [h] at reset
  unfold State.fmuSound
  rw [fmu]
  simp [Fmu.atReset, busy]

theorem Water.atReset_sound : Water.atReset.sound := by decide

theorem measuresSound_kept : Kept State.measuresSound where
  queue _ _ _ _ _ sound := sound
  count _ _ := fun ⟨fmu, water, alarms⟩ => ⟨count_fmuSound fmu, count_water_sound water, alarms⟩
  bare s u awake part := fun ⟨fmu, water, attn, prot⟩ =>
    ⟨part.fmuSound awake fmu, part.water ▸ water, part.attn attn, part.prot_sound prot⟩
  settled s u awake part := fun ⟨fmu, water, attn, prot⟩ =>
    ⟨fmuSound_of_eq ((settle_fmu s u).trans part.fmu) ((settle_resetting s u).trans part.resetting) fmu,
      (settle_water s u).symm ▸ part.water_sound water, (settle_attn s u).trans (part.attn attn),
      (settle_prot s u).symm ▸ part.prot_sound prot⟩
  powerOn s _ := ⟨atReset_fmuSound rfl rfl, Water.atReset_sound, by simp [State.powerOnReset, State.resetBlocks],
    Protection.atReset_sound⟩
  pin s := fun ⟨_, _, _, _, _, ranges⟩ => ⟨atReset_fmuSound rfl rfl, Water.atReset_sound,
    by simp [State.pinReset, State.resetBlocks], Nat.zero_le 3, fun _ => rfl, ranges⟩
  ended s k nomsel shut full engaged reset := fun ⟨fmu, water, alarms⟩ =>
    ⟨endReset_fmuSound k nomsel shut full engaged reset fmu, (endReset_water s k nomsel shut full engaged).symm ▸ water,
      endReset_alarmsSound k nomsel shut full engaged alarms⟩

/-- Settles O53. -/
theorem measurementWaterAndAlarmsStaySound : Obligations.MeasurementWaterAndAlarmsStaySound := by
  intro s t fmu water alarms h
  exact measuresSound_kept.step s t ⟨fmu, water, alarms⟩ h

end Sys2Proof.Machine

/-! ## Proofs: the frames of the field line (07_the_field_line.md) -/

namespace Sys2Proof.Machine

/-! ### The CRC (R121) -/

/-- A data bit that is the register's own top bit shifts it out. -/
theorem crcBit_shift (reg : Half) (k : Nat) (small : k < 16) :
    crcBit (reg <<< k) (reg.getLsbD (15 - k)) = reg <<< (k + 1) := by
  have top : (reg <<< k).msb = reg.getLsbD (15 - k) := by
    rw [BitVec.msb_eq_getLsbD_last, BitVec.getLsbD_shiftLeft]
    simp
    omega
  unfold crcBit
  rw [top, bne_self_eq_false, if_neg Bool.false_ne_true, BitVec.shiftLeft_add]

/-- The register's upper byte, as data, shifts the register by a byte. -/
theorem crcByte_high (reg : Half) : crcByte reg (reg.extractLsb' 8 8) = reg <<< 8 := by
  have bit : ∀ k, k < 8 → crcBit (reg <<< k) ((reg.extractLsb' 8 8).getLsbD (7 - k)) = reg <<< (k + 1) := fun k small => by
    rw [BitVec.getLsbD_extractLsb', ← crcBit_shift reg k (by omega)]
    have : 8 + (7 - k) = 15 - k := by omega
    have inside : 7 - k < 8 := by omega
    simp [this, inside]
  have start : reg = reg <<< 0 := (BitVec.shiftLeft_zero _).symm
  unfold crcByte
  simp only [List.foldl_cons, List.foldl_nil]
  rw [show crcBit reg ((reg.extractLsb' 8 8).getLsbD 7) = reg <<< 1 by
    conv_lhs => rw [start]
    simpa using bit 0 (by omega)]
  rw [bit 1 (by omega), bit 2 (by omega), bit 3 (by omega), bit 4 (by omega), bit 5 (by omega), bit 6 (by omega),
    bit 7 (by omega)]

/-- R121: over content and CRC the register ends at 0. -/
theorem crc_withCrc (bytes : List Byte) : crc (withCrc bytes) = 0 := by
  generalize value : crc bytes = reg
  have low : reg.extractLsb' 0 8 = (reg <<< 8).extractLsb' 8 8 := by
    ext i hi
    simp
    omega
  have ends : crc (withCrc bytes) = crcByte (crcByte reg (reg.extractLsb' 8 8)) (reg.extractLsb' 0 8) := by
    unfold withCrc
    rw [value, crc, List.foldl_append, ← crc, value]
    rfl
  rw [ends, crcByte_high, low, crcByte_high, ← BitVec.shiftLeft_add]
  exact BitVec.shiftLeft_eq_zero (by decide)

/-! ### Bytes (R186) -/

theorem byte_append_halfBytes (h : Half) : h.extractLsb' 8 8 ++ h.extractLsb' 0 8 = h := by
  rw [BitVec.extractLsb'_append_extractLsb'_eq_extractLsb' (by rfl)]
  exact BitVec.extractLsb'_eq_self

theorem byte_append_wordBytes (w : BitVec 32) :
    w.extractLsb' 24 8 ++ w.extractLsb' 16 8 ++ w.extractLsb' 8 8 ++ w.extractLsb' 0 8 = w := by
  rw [BitVec.extractLsb'_append_extractLsb'_eq_extractLsb' (by rfl),
    BitVec.extractLsb'_append_extractLsb'_eq_extractLsb' (by rfl),
    BitVec.extractLsb'_append_extractLsb'_eq_extractLsb' (by rfl)]
  exact BitVec.extractLsb'_eq_self

/-! ### Well-formed replies (R120, R123, R188) -/

theorem withCrc_length (bytes : List Byte) : (withCrc bytes).length = bytes.length + 2 := by
  simp [withCrc, halfBytes]

theorem withCrc_dropLast (bytes : List Byte) : (withCrc bytes).dropLast.dropLast = bytes := by
  simp [withCrc, halfBytes]

/-- R188: a REPORT is read from its thirteen characters. -/
theorem replyOf_report (number m k a b c d e f g : Byte) :
    replyOf (withCrc [number, 0x81, m, k, a, b, c, d, e, f, g]) =
      (reportContent number [m, k, a, b, c, d, e, f, g]).map (.report number) := by
  unfold replyOf
  rw [crc_withCrc, withCrc_dropLast, withCrc_length]
  simp

/-- R188: a TAKE is read from its seventeen characters. -/
theorem replyOf_take (number m k a b c d e f g : Byte) (x : Serial) :
    replyOf (withCrc ([number, 0x83] ++ wordBytes x ++ [m, k, a, b, c, d, e, f, g])) =
      (reportContent number [m, k, a, b, c, d, e, f, g]).map (.take number x) := by
  unfold replyOf
  rw [crc_withCrc, withCrc_dropLast, withCrc_length]
  simp [wordBytes, byte_append_wordBytes]

/-- R188: the content of a Gauge report. -/
theorem reportContent_gauge (number : Byte) (level : Half) (c d e f g : Byte) :
    reportContent number [number, 1, level.extractLsb' 8 8, level.extractLsb' 0 8, c, d, e, f, g] =
      some (.gauge level.toNat) := by
  simp [reportContent, byte_append_halfBytes]

theorem tripOf_eq (trip : Byte) (defined : trip.toNat ≤ 2) :
    tripOf trip = some (if trip = 1 then some .overcurrent else if trip = 2 then some .leakage else none) := by
  have cases : trip = 0 ∨ trip = 1 ∨ trip = 2 := by
    rcases trip with ⟨⟨_ | _ | _ | n, h⟩⟩
    · exact .inl rfl
    · exact .inr (.inl rfl)
    · exact .inr (.inr rfl)
    · simp at defined
  rcases cases with rfl | rfl | rfl <;> rfl

theorem flagOf_ite (closed : Bool) : flagOf (if closed then 1 else 0) = some closed := by cases closed <;> rfl

/-- R188: the content of a Service report. -/
theorem reportContent_service (number : Byte) (closed : Bool) (limit demand : Half) (cls trip : Byte) (small : cls.toNat ≤ 3)
    (defined : trip.toNat ≤ 2) :
    reportContent number [number, 0, if closed then 1 else 0, limit.extractLsb' 8 8, limit.extractLsb' 0 8, cls,
        demand.extractLsb' 8 8, demand.extractLsb' 0 8, trip] =
      some (.service ⟨closed, min limit.toNat 4095, cls.toNat⟩ demand.toNat
        (if trip = 1 then some .overcurrent else if trip = 2 then some .leakage else none)) := by
  have flag := flagOf_ite closed
  simp only [BitVec.ofNat_eq_ofNat] at flag
  simp [reportContent, serviceContent, byte_append_halfBytes, flag, classOf, small, tripOf_eq trip defined, limitBound]

end Sys2Proof.Machine

/-! ## Proofs: what the water plan's rows do -/

namespace Sys2Proof.Machine

/-! ### A reply that is read (R124, R126) -/

/-- R128: the outcome of a turn that is not void, with the line port Quiet. -/
theorem handOutcome_of_turn {s : State} {t : Turn} (h : Heard) (turn : s.port.turn = some t) (whole : t.void = false) :
    State.handOutcome h { s with port := s.port.toQuiet } = State.outcome t h { s with port := s.port.toQuiet } := by
  simp [State.handOutcome, LinePort.toQuiet, turn, whole]

/-- R124, R126: a well-formed reply is the outcome of its turn. -/
theorem replyOver_of_frame {s : State} {r : LineReply} {t : Turn} (phase : s.port.phase = .receiving)
    (framing : s.port.framing = false) (read : replyOf s.port.reply = some r) (turn : s.port.turn = some t)
    (whole : t.void = false) : s.replyOver = State.outcome t (.frame r) { s with port := s.port.toQuiet } := by
  rw [← handOutcome_of_turn _ turn whole]
  simp [State.replyOver, phase, heardOf, framing, read]

theorem judgeReport_self {n : Slot} {c : Content} {k : Kind} (kind : c.kind = k) :
    judgeReport n (some k) (.frame (.report (stationNumber n) c)) = some c := by
  simp [judgeReport, kind]

/-- R126, R144: a valid REPORT to a QUERY. -/
theorem outcome_query (n : Slot) {c : Content} {k : Kind} (s : State) (kind : c.kind = k) :
    State.outcome ⟨.query n, some k, false⟩ (.frame (.report (stationNumber n) c)) s =
      (s.report n c).withEngine (Engine.leaveHold n) := by
  simp only [State.outcome, judgeReport_self kind]

/-- R126, R144: a valid REPORT to an ORDER. -/
theorem outcome_order (n : Slot) (sent : Settings) {c : Content} {k : Kind} (s : State) (kind : c.kind = k) :
    State.outcome ⟨.order n sent, some k, false⟩ (.frame (.report (stationNumber n) c)) s =
      if (s.report n c).disobeyed n sent then (s.report n c).withEngine (Engine.joinHold n) else s.report n c := by
  simp only [State.outcome, judgeReport_self kind]

theorem onLine_iff (st : Station) : st.onLine = true ↔ st.life = .enrolled ∨ st.life = .retiring := by
  unfold Station.onLine
  split <;> simp_all

/-- R87: the REPORT of an Enrolled or Retiring Gauge record brings its level. -/
theorem gaugeReport_water {s : State} {n : Slot} {st : Station} (l : Nat) (here : s.station n = some st)
    (onLine : st.onLine = true) (gauge : st.service = none) : (s.gaugeReport n l).water = s.water.receive l := by
  have kind : st.kind = .gauge := by rw [Station.kind, gauge]
  simp [State.gaugeReport, here, onLine, kind, water_of_exceptTable (linkAnswered_exceptTable n s)]

/-! ### The rows -/

/-- R58: an accepted table's band in force (R59). -/
theorem Water.load_eq (w : Water) (bands : List Band) : w.load bands = { w with plan := some ⟨bands, w.choose bands⟩ } := rfl

theorem Water.choose_of_level {w : Water} {l : Nat} (bands : List Band) (known : w.source = .live ∨ w.source = .holding)
    (level : w.level = some l) : w.choose bands = highestBand bands l := by
  unfold Water.choose
  rcases known with source | source <;> simp [source, level]

theorem Water.choose_of_none {w : Water} (bands : List Band) (live : w.source ≠ .live) (holding : w.source ≠ .holding) :
    w.choose bands = 1 := by
  unfold Water.choose
  cases source : w.source <;> simp_all

theorem Water.holdOver_of_holding {w : Water} (holding : w.source = .holding) :
    w.holdOver = { w with
      source := .lost, hold := none, plan := w.plan.map (fun p => { p with inForce := 1 }) } := by
  rw [Water.holdOver, holding]
  rfl

/-- Settles O19. -/
theorem planLoadAndHoldTimerChooseTheBand : Obligations.PlanLoadAndHoldTimerChooseTheBand := by
  intro bands s
  have row : exec (.planLoad bands) s = execPlanLoad bands s := rfl
  refine ⟨?range, ?accepted, ?hold⟩
  case range =>
    intro taken bad
    rw [row, execPlanLoad, command_of_accepts _ _ _ s taken.1 taken.2]
    simp [bad, slowBound]
  case accepted =>
    intro taken good
    obtain ⟨least, most⟩ := choose_range s.water (bands.map bandOf) good
    refine ⟨s.water.choose (bands.map bandOf), ?_, least, by simpa using most, fun l known level i b here => ?_,
      Water.choose_of_none _⟩
    · rw [row, execPlanLoad, command_of_accepts _ _ _ s taken.1 taken.2]
      simp only [good, if_true]
      rfl
    · rw [Water.choose_of_level _ known level]
      exact highestBand_iff _ good l i b here
  case hold =>
    intro awake holding fresh
    have row : exec .holdTimerExpiry s = execHoldTimerExpiry s := rfl
    rw [row, execHoldTimerExpiry, expiry_of_fresh _ _ s awake fresh, settled, Water.holdOver_of_holding holding]

/-- R61: what a level makes of the water plan. -/
theorem Water.receive_eq (w : Water) (l : Nat) : w.receive l = { w with
    level := some (min l 4000), source := .live, hold := none, plan := w.plan.map (WaterPlan.follow (min l 4000)) } := rfl

/-- Settles O20. -/
theorem levelsMoveTheBandWithHysteresis : Obligations.LevelsMoveTheBandWithHysteresis := by
  refine ⟨fun p l sound => ⟨rfl, p.follow_spec l sound⟩, ?report⟩
  case report =>
    intro n st level rest s awake here life gauge phase fresh framing turn reply
    have read : replyOf s.port.reply = some (.report (stationNumber n) (.gauge level.toNat)) := by
      rw [reply]
      refine (replyOf_report _ _ _ _ _ _ _ _ _ _).trans ?_
      rw [reportContent_gauge]
      rfl
    have row : exec .replyEnd s = .next (State.settle s s.replyOver) := expiry_of_fresh .replyEnd _ s awake fresh
    have water : s.replyOver.water = s.water.receive level.toNat := by
      rw [replyOver_of_frame phase framing read turn rfl, outcome_query n (k := .gauge) _ rfl]
      exact gaugeReport_water (s := { s with port := s.port.toQuiet }) level.toNat here ((onLine_iff st).mpr life) gauge
    rw [Water.receive_eq] at water
    refine ⟨_, row, ?_⟩
    rw [settle_water, water]
    exact ⟨rfl, rfl, rfl, rfl⟩

end Sys2Proof.Machine

/-! ## Proofs: the ballast governor's table of banks (02_ballast_governing.md) -/

namespace Sys2Proof.Machine

/-! ### The banks -/

theorem mem_bankNos (k : BankNo) : k ∈ bankNos := List.mem_finRange k

/-- A bank's part in B_cap: its rating while it is Ready. -/
def Bank.readyShare (b : Bank) : Nat := if b.isReady then b.rating else 0

theorem Bank.isReady_iff (b : Bank) : b.isReady = true ↔ b.state = .ready := by simp [Bank.isReady]

theorem setBank_self (k : BankNo) (b : Bank) (g : Governor) : (g.setBank k b).banks[k] = b := by
  simp [Governor.setBank]

theorem setBank_ne (k j : BankNo) (b : Bank) (g : Governor) (other : j ≠ k) : (g.setBank k b).banks[j] = g.banks[j] := by
  have : k.val ≠ j.val := fun e => other (Fin.ext e.symm)
  simp [Governor.setBank, this]

theorem banks_toList (g : Governor) : g.banks.toList = bankNos.map (fun k : BankNo => g.banks[k]) := by
  apply List.ext_getElem
  · simp [bankNos]
  · intro i h1 h2
    simp [bankNos]

/-- The ratings of the Ready banks, bank by bank. -/
theorem readyRatings_eq (g : Governor) :
    g.readyRatings = (bankNos.filter (fun k : BankNo => g.banks[k].isReady)).map (fun k : BankNo => g.banks[k].rating) := by
  rw [Governor.readyRatings, banks_toList, List.filter_map, List.map_map]
  rfl

theorem bCap_eq (g : Governor) : g.bCap = ∑ k : BankNo, g.banks[k].readyShare := by
  have each : ∀ l : List BankNo, ((l.filter (fun k : BankNo => g.banks[k].isReady)).map
      (fun k : BankNo => g.banks[k].rating)).sum = (l.map (fun k : BankNo => g.banks[k].readyShare)).sum := by
    intro l
    induction l with
    | nil => rfl
    | cons k l ih =>
      rw [List.filter_cons, List.map_cons, List.sum_cons, ← ih, Bank.readyShare]
      split
      · rfl
      · exact (Nat.zero_add _).symm
  rw [Governor.bCap, readyRatings_eq, each]
  exact (Fin.sum_univ_def _).symm

/-- B_cap moves by what one bank's part moves. -/
theorem bCap_setBank (g : Governor) (k : BankNo) (b : Bank) :
    (g.setBank k b).bCap + g.banks[k].readyShare = g.bCap + b.readyShare := by
  have rest : ∑ j ∈ Finset.univ.erase k, (g.setBank k b).banks[j].readyShare =
      ∑ j ∈ Finset.univ.erase k, g.banks[j].readyShare :=
    Finset.sum_congr rfl fun j hj => by rw [setBank_ne k j b g (Finset.ne_of_mem_erase hj)]
  rw [bCap_eq, bCap_eq, ← Finset.add_sum_erase _ _ (Finset.mem_univ k), ← Finset.add_sum_erase _ _ (Finset.mem_univ k),
    setBank_self, rest]
  omega

/-- B_cap and r_min are those of the Ready banks alone. -/
theorem readyRatings_congr {g h : Governor} (same : ∀ k : BankNo, h.banks[k].isReady = g.banks[k].isReady ∧
    (g.banks[k].isReady = true → h.banks[k].rating = g.banks[k].rating)) : h.readyRatings = g.readyRatings := by
  have ready : (bankNos.filter fun k : BankNo => h.banks[k].isReady) = bankNos.filter fun k : BankNo => g.banks[k].isReady :=
    List.filter_congr fun k _ => (same k).1
  rw [readyRatings_eq, readyRatings_eq, ready]
  refine List.map_congr_left fun k hk => (same k).2 ?_
  simpa using (List.mem_filter.mp hk).2

/-! ### The offer and the choice (R24) -/

theorem insertBank_perm (rating : BankNo → Nat) (k : BankNo) (l : List BankNo) :
    (insertBank rating k l).Perm (k :: l) := by
  induction l with
  | nil => exact List.Perm.refl _
  | cons j js ih =>
    unfold insertBank
    split
    · exact (ih.cons j).trans (List.Perm.swap k j js)
    · exact List.Perm.refl _

/-- Banks before the new one, put by descending rating, equal ratings in the order they came. -/
def offerOrder (rating : BankNo → Nat) (i j : BankNo) : Prop := rating j < rating i ∨ (rating i = rating j ∧ i < j)

theorem insertBank_pairwise (rating : BankNo → Nat) (k : BankNo) (l : List BankNo) (sorted : l.Pairwise (offerOrder rating))
    (later : ∀ j ∈ l, j < k) : (insertBank rating k l).Pairwise (offerOrder rating) := by
  induction l with
  | nil => exact List.pairwise_singleton _ _
  | cons j js ih =>
    obtain ⟨first, tail⟩ := List.pairwise_cons.mp sorted
    unfold insertBank
    split
    · next le =>
      refine List.pairwise_cons.mpr ⟨fun i hi => ?_, ih tail fun i hi => later i (List.mem_cons_of_mem _ hi)⟩
      rcases List.mem_cons.mp ((insertBank_perm rating k js).mem_iff.mp hi) with rfl | hi
      · rcases Nat.lt_or_eq_of_le le with lt | eq
        · exact .inl lt
        · exact .inr ⟨eq.symm, later j List.mem_cons_self⟩
      · exact first i hi
    · next gt =>
      refine List.pairwise_cons.mpr ⟨fun i hi => .inl ?_, sorted⟩
      rcases List.mem_cons.mp hi with rfl | hi
      · omega
      · rcases first i hi with lt | ⟨eq, -⟩ <;> omega

/-- The banks to be offered, in ascending order. -/
def Governor.onOffer (g : Governor) : List BankNo :=
  bankNos.filter (fun k : BankNo => g.banks[k].isReady || decide (g.banks[k].state = .checking))

theorem offered_eq (g : Governor) :
    g.offered = g.onOffer.foldl (fun l k => insertBank (fun j : BankNo => g.banks[j].rating) k l) [] := rfl

theorem insertAll_perm (rating : BankNo → Nat) (l acc : List BankNo) :
    (l.foldl (fun l k => insertBank rating k l) acc).Perm (l ++ acc) := by
  induction l generalizing acc with
  | nil => exact List.Perm.refl _
  | cons k l ih =>
    refine (ih _).trans ?_
    refine ((insertBank_perm rating k acc).append_left l).trans ?_
    exact List.perm_middle

theorem insertAll_pairwise (rating : BankNo → Nat) (l acc : List BankNo) (ascending : l.Pairwise (· < ·))
    (sorted : acc.Pairwise (offerOrder rating)) (later : ∀ j ∈ acc, ∀ k ∈ l, j < k) :
    (l.foldl (fun l k => insertBank rating k l) acc).Pairwise (offerOrder rating) := by
  induction l generalizing acc with
  | nil => exact sorted
  | cons k l ih =>
    obtain ⟨first, ascending⟩ := List.pairwise_cons.mp ascending
    refine ih _ ascending (insertBank_pairwise rating k acc sorted fun j hj => later j hj k List.mem_cons_self) ?_
    intro j hj i hi
    rcases List.mem_cons.mp ((insertBank_perm rating k acc).mem_iff.mp hj) with rfl | hj
    · exact first i hi
    · exact later j hj i (List.mem_cons_of_mem _ hi)

theorem offered_pairwise (g : Governor) : g.offered.Pairwise (offerOrder fun j : BankNo => g.banks[j].rating) := by
  rw [offered_eq]
  refine insertAll_pairwise _ _ _ ?_ List.Pairwise.nil (by simp)
  exact (List.pairwise_lt_finRange 8).filter _

theorem mem_offered (g : Governor) (k : BankNo) :
    k ∈ g.offered ↔ g.banks[k].state = .ready ∨ g.banks[k].state = .checking := by
  rw [offered_eq, (insertAll_perm _ _ _).mem_iff, Governor.onOffer]
  simp [mem_bankNos, Bank.isReady]

theorem offered_nodup (g : Governor) : g.offered.Nodup := by
  rw [offered_eq, (insertAll_perm _ _ _).nodup_iff, List.append_nil]
  exact (List.nodup_finRange 8).filter _

theorem greedy_sublist (rating : BankNo → Nat) (l : List BankNo) (left : Nat) : (greedy rating l left).1.Sublist l := by
  induction l generalizing left with
  | nil => exact List.Sublist.refl _
  | cons k ks ih =>
    unfold greedy
    split
    · exact (ih _).cons_cons k
    · exact (ih _).cons k

/-- What the greedy choice takes and leaves is what it was given. -/
theorem greedy_sum (rating : BankNo → Nat) (l : List BankNo) (left : Nat) :
    ((greedy rating l left).1.map rating).sum + (greedy rating l left).2 = left := by
  induction l generalizing left with
  | nil => simp [greedy]
  | cons k ks ih =>
    unfold greedy
    split
    · next fits =>
      have := ih (left - rating k)
      simp only [List.map_cons, List.sum_cons]
      omega
    · exact ih left

/-- R24: a bank is chosen exactly where it fits in what the banks chosen before it leave. -/
theorem mem_greedy_iff (rating : BankNo → Nat) (before : List BankNo) (k : BankNo) (rest : List BankNo) (left : Nat)
    (once : (before ++ k :: rest).Nodup) :
    k ∈ (greedy rating (before ++ k :: rest) left).1 ↔
      rating k + ((before.filter (fun j => decide (j ∈ (greedy rating (before ++ k :: rest) left).1))).map rating).sum ≤
        left := by
  induction before generalizing left with
  | nil =>
    obtain ⟨other, -⟩ := List.nodup_cons.mp once
    simp only [List.nil_append, List.filter_nil, List.map_nil, List.sum_nil, Nat.add_zero]
    unfold greedy
    split
    · next fits => simp [fits]
    · next large =>
      have absent : k ∉ (greedy rating rest left).1 := fun h => other ((greedy_sublist rating rest left).subset h)
      simp [absent, large]
  | cons j before ih =>
    obtain ⟨other, once⟩ := List.nodup_cons.mp once
    have apart : k ≠ j := fun h => other (by simp [h])
    have drop : ∀ chosen : List BankNo, before.filter (fun i => decide (i ∈ j :: chosen)) =
        before.filter (fun i => decide (i ∈ chosen)) := fun chosen =>
      List.filter_congr fun i hi => by
        have : i ≠ j := fun h => other (by simp [← h, hi])
        simp [this]
    simp only [List.cons_append]
    by_cases fits : rating j ≤ left
    · have taken : greedy rating (j :: (before ++ k :: rest)) left =
          (j :: (greedy rating (before ++ k :: rest) (left - rating j)).1,
            (greedy rating (before ++ k :: rest) (left - rating j)).2) := by
        rw [greedy, if_pos fits]
      simp only [taken]
      rw [List.filter_cons_of_pos (by simp), drop, List.map_cons, List.sum_cons, List.mem_cons, or_iff_right apart, ih _ once]
      omega
    · have left_out : greedy rating (j :: (before ++ k :: rest)) left = greedy rating (before ++ k :: rest) left := by
        rw [greedy, if_neg fits]
      have absent : j ∉ (greedy rating (before ++ k :: rest) left).1 := fun h =>
        other ((greedy_sublist rating _ left).subset h)
      simp only [left_out]
      rw [List.filter_cons_of_neg (by simpa using absent)]
      exact ih _ once

theorem select_of_rMin {g : Governor} {r : Nat} (here : g.rMin = some r) :
    g.select = ((greedy (fun j : BankNo => g.banks[j].rating) g.offered (g.b + g.carry)).1,
      min (greedy (fun j : BankNo => g.banks[j].rating) g.offered (g.b + g.carry)).2 (r - 1)) := by
  rw [Governor.select, here]

theorem select_of_none {g : Governor} (none : g.rMin = none) : g.select = ([], 0) := by rw [Governor.select, none]

theorem select_sublist (g : Governor) : g.select.1.Sublist g.offered := by
  cases here : g.rMin with
  | none => rw [select_of_none here]; exact List.nil_sublist _
  | some r => rw [select_of_rMin here]; exact greedy_sublist _ _ _

/-! ### The drive and the check (R16, R35) -/

theorem drive_bank (chosen : List BankNo) (g : Governor) (k : BankNo) :
    (g.drive chosen).banks[k] = { g.banks[k] with on := chosen.contains k } := by
  simp [Governor.drive]

theorem endCheck_self (k : BankNo) (r : CheckResult) (g : Governor) :
    (g.endCheck k r).banks[k] = ⟨g.banks[k].rating, .disabled, 0, 0, false⟩ := setBank_self k _ g

theorem endCheck_ne (k j : BankNo) (r : CheckResult) (g : Governor) (other : j ≠ k) :
    (g.endCheck k r).banks[j] = g.banks[j] := setBank_ne k j _ g other

/-! R35: what stages 6 and 7 do with the check. -/

theorem checkOffered_of_none {g : Governor} (chosen : List BankNo) (idle : g.check = none) :
    g.checkOffered chosen = (g, []) := by rw [Governor.checkOffered, idle]

theorem checkOffered_of_mem {g : Governor} {c : CheckRecord} {chosen : List BankNo} (running : g.check = some c)
    (offered : c.bank ∈ chosen) :
    g.checkOffered chosen = ({ g with check := some { c with chosen := true } }, []) := by
  simp [Governor.checkOffered, running, offered]

theorem checkOffered_of_last {g : Governor} {c : CheckRecord} {chosen : List BankNo} (running : g.check = some c)
    (passed : c.bank ∉ chosen) (last : 49 ≤ c.windows) :
    g.checkOffered chosen = (g.endCheck c.bank .notExercised, [.check]) := by
  simp [Governor.checkOffered, running, passed, checkWindows, last]

theorem checkOffered_of_more {g : Governor} {c : CheckRecord} {chosen : List BankNo} (running : g.check = some c)
    (passed : c.bank ∉ chosen) (more : c.windows < 49) :
    g.checkOffered chosen = ({ g with check := some { c with windows := c.windows + 1 } }, []) := by
  simp [Governor.checkOffered, running, passed, checkWindows, more]

/-- The four cases of the check at stages 6 and 7. -/
theorem checkOffered_cases (chosen : List BankNo) (g : Governor) :
    (g.check = none ∧ g.checkOffered chosen = (g, [])) ∨
      (∃ c, g.check = some c ∧
        ((c.bank ∈ chosen ∧ g.checkOffered chosen = ({ g with check := some { c with chosen := true } }, [])) ∨
          (c.bank ∉ chosen ∧ 49 ≤ c.windows ∧ g.checkOffered chosen = (g.endCheck c.bank .notExercised, [.check])) ∨
          (c.bank ∉ chosen ∧ c.windows < 49 ∧
            g.checkOffered chosen = ({ g with check := some { c with windows := c.windows + 1 } }, [])))) := by
  cases running : g.check with
  | none => exact .inl ⟨rfl, checkOffered_of_none chosen running⟩
  | some c =>
    refine .inr ⟨c, rfl, ?_⟩
    by_cases taken : c.bank ∈ chosen
    · exact .inl ⟨taken, checkOffered_of_mem running taken⟩
    · rcases Nat.lt_or_ge c.windows 49 with more | last
      · exact .inr (.inr ⟨taken, more, checkOffered_of_more running taken more⟩)
      · exact .inr (.inl ⟨taken, last, checkOffered_of_last running taken last⟩)

/-- The governor of stage 7. -/
def Governor.driven (g : Governor) : Governor := { g with carry := g.select.2 }.drive g.select.1

theorem command_fst (g : Governor) :
    g.command.1 = { (g.driven.checkOffered g.select.1).1 with s := g.s + g.b - g.s / 16 } := rfl

theorem command_snd (g : Governor) : g.command.2 = (g.driven.checkOffered g.select.1).2 := rfl

theorem driven_bank (g : Governor) (k : BankNo) :
    g.driven.banks[k] = { g.banks[k] with on := decide (k ∈ g.select.1) } := by
  rw [Governor.driven, drive_bank, List.contains_eq_mem]

/-- What the check's part of stages 6 and 7 leaves. -/
theorem checkOffered_fields (chosen : List BankNo) (g : Governor) :
    let h := (g.checkOffered chosen).1
    h.bFine = g.bFine ∧ h.b = g.b ∧ h.carry = g.carry ∧ h.ff = g.ff ∧ h.ePrev = g.ePrev ∧ h.reseed = g.reseed ∧
      h.kp = g.kp ∧ h.ki = g.ki ∧ h.offset = g.offset := by
  rcases checkOffered_cases chosen g with ⟨-, h⟩ | ⟨c, -, ⟨-, h⟩ | ⟨-, -, h⟩ | ⟨-, -, h⟩⟩ <;> rw [h] <;>
    exact ⟨rfl, rfl, rfl, rfl, rfl, rfl, rfl, rfl, rfl⟩

/-- R16: stages 6 to 8 leave exactly the chosen banks on. -/
theorem command_on (g : Governor) (k : BankNo) : g.command.1.banks[k].on = true ↔ k ∈ g.select.1 := by
  have driven : g.driven.banks[k].on = true ↔ k ∈ g.select.1 := by rw [driven_bank]; exact decide_eq_true_iff
  rw [command_fst]
  rcases checkOffered_cases g.select.1 g.driven with ⟨-, h⟩ | ⟨c, -, ⟨-, h⟩ | ⟨out, -, h⟩ | ⟨-, -, h⟩⟩ <;> rw [h]
  · exact driven
  · exact driven
  · by_cases same : k = c.bank
    · subst same
      simp only [endCheck_self]
      simp [out]
    · simp only [endCheck_ne c.bank k _ _ same]
      exact driven
  · exact driven

/-- Settles O10. -/
theorem selectionFitsTheTarget : Obligations.SelectionFitsTheTarget := by
  intro g
  refine ⟨offered_pairwise g, mem_offered g, select_sublist g, fun m least => ?_, select_of_none, ?_, command_on g⟩
  · have sum := greedy_sum (fun j : BankNo => g.banks[j].rating) g.offered (g.b + g.carry)
    rw [select_of_rMin least]
    dsimp only at sum ⊢
    refine ⟨fun before k rest split => ?_, by omega, ?_⟩
    · have once := offered_nodup g
      rw [split] at once ⊢
      exact mem_greedy_iff _ before k rest _ once
    · congr 1
      omega
  · rw [command_fst]
    exact (checkOffered_fields _ _).2.2.1

end Sys2Proof.Machine

/-! ## Proofs: the ballast governor stays sound (02_ballast_governing.md) -/

namespace Sys2Proof.Machine

/-! ### The governor's rules, apart -/

/-- 2.2: the ranges that no bank bears on. -/
def Governor.inRange (g : Governor) : Prop :=
  g.s ≤ 256015 ∧ -16000 ≤ g.ff ∧ g.ff ≤ 16000 ∧ -21000 ≤ g.ePrev ∧ g.ePrev ≤ 21000 ∧ g.kp ≤ 4095 ∧ g.ki ≤ 4095 ∧
    -1000 ≤ g.offset ∧ g.offset ≤ 1000

/-- R23, R24, R27: B_fine, B and the carry within what the Ready banks give. -/
def Governor.capped (g : Governor) : Prop :=
  g.bFine ≤ 1024 * g.bCap ∧ g.b = g.bFine / 1024 ∧ g.carry ≤ g.carryBound

/-- R33, R34: Checking is the bank under check, and Absent a rating of 0. -/
def Governor.statesFit (g : Governor) : Prop :=
  ∀ k : BankNo, (g.banks[k].state = .checking ↔ g.underCheck = some k) ∧ (g.banks[k].state = .absent ↔ g.banks[k].rating = 0)

/-- R16: an output is on for a Ready bank or one under check alone, and in a trip for every Ready bank. -/
def Bank.outputFits (trip : Bool) (b : Bank) : Prop :=
  (b.on = true → b.state = .ready ∨ b.state = .checking) ∧ (trip = true → b.state = .ready → b.on = true)

/-- What `State.governorSound` says of the governor, in a trip or outside one. -/
structure Governor.Steady (trip : Bool) (g : Governor) : Prop where
  range : g.inRange
  capped : g.capped
  ratings : ∀ k : BankNo, g.banks[k].rating ≤ 2000
  idle : trip = true → g.check = none
  states : g.statesFit
  outputs : ∀ k : BankNo, g.banks[k].outputFits trip

theorem governorSound_iff (s : State) :
    s.governorSound ↔ s.gov.Steady s.prot.trip ∧ (s.resetting.isSome = true → s.prot.trip = false) := by
  constructor
  · rintro ⟨⟨fine, b, carry, s1, f1, f2, e1, e2, p, i, o1, o2, ratings⟩, idle, reset, banks⟩
    exact ⟨⟨⟨s1, f1, f2, e1, e2, p, i, o1, o2⟩, ⟨fine, b, carry⟩, ratings, idle,
      fun k => (banks k).2.2, fun k => ⟨(banks k).1, (banks k).2.1⟩⟩, reset⟩
  · rintro ⟨⟨⟨s1, f1, f2, e1, e2, p, i, o1, o2⟩, ⟨fine, b, carry⟩, ratings, idle, states, outputs⟩, reset⟩
    exact ⟨⟨fine, b, carry, s1, f1, f2, e1, e2, p, i, o1, o2, ratings⟩, idle, reset,
      fun k => ⟨(outputs k).1, (outputs k).2, (states k).1, (states k).2⟩⟩

/-! ### B_cap -/

theorem Bank.readyShare_le {b : Bank} (small : b.rating ≤ 2000) : b.readyShare ≤ 2000 := by
  unfold Bank.readyShare
  split <;> omega

theorem bCap_le {g : Governor} (ratings : ∀ k : BankNo, g.banks[k].rating ≤ 2000) : g.bCap ≤ 16000 := by
  rw [bCap_eq]
  calc ∑ k : BankNo, g.banks[k].readyShare
      ≤ ∑ _k : BankNo, 2000 := Finset.sum_le_sum fun k _ => Bank.readyShare_le (ratings k)
    _ = 16000 := by simp

/-- R23 to R27: the Ready banks are what B_cap and the carry's bound go by. -/
theorem capped_of_sameReady {g h : Governor} (fine : h.bFine = g.bFine) (b : h.b = g.b) (carry : h.carry = g.carry)
    (same : ∀ k : BankNo, h.banks[k].isReady = g.banks[k].isReady ∧
      (g.banks[k].isReady = true → h.banks[k].rating = g.banks[k].rating)) (capped : g.capped) : h.capped := by
  have ready := readyRatings_congr same
  have cap : h.bCap = g.bCap := congrArg List.sum ready
  have bound : h.carryBound = g.carryBound := by simp only [Governor.carryBound, Governor.rMin, ready]
  unfold Governor.capped
  rw [fine, b, carry, cap, bound]
  exact capped

/-- R27. -/
theorem reclamp_capped {g : Governor} (b : g.b = g.bFine / 1024) : g.reclamp.capped := by
  refine ⟨Nat.min_le_right _ _, ?_, Nat.min_le_right _ _⟩
  show min g.b g.bCap = min g.bFine (1024 * g.bCap) / 1024
  omega

theorem reclamp_steady {trip : Bool} {g : Governor} (range : g.inRange) (b : g.b = g.bFine / 1024)
    (ratings : ∀ k : BankNo, g.banks[k].rating ≤ 2000) (idle : trip = true → g.check = none) (states : g.statesFit)
    (outputs : ∀ k : BankNo, g.banks[k].outputFits trip) : g.reclamp.Steady trip :=
  ⟨range, reclamp_capped b, ratings, idle, states, outputs⟩

/-! ### One bank changes -/

/-- A bank, the check and its last result are replaced. -/
def Governor.replace (k : BankNo) (b : Bank) (check : Option CheckRecord) (last : Option (BankNo × CheckResult))
    (g : Governor) : Governor :=
  { g.setBank k b with check := check, lastCheck := last }

/-- When a bank and a check may take the place of those of a governor. -/
structure Fits (trip : Bool) (g : Governor) (k : BankNo) (b : Bank) (check : Option CheckRecord) : Prop where
  rating : b.rating = g.banks[k].rating
  absent : b.state ≠ .absent
  present : g.banks[k].state ≠ .absent
  checking : b.state = .checking ↔ check.map CheckRecord.bank = some k
  others : ∀ j, j ≠ k → (check.map CheckRecord.bank = some j ↔ g.underCheck = some j)
  output : b.outputFits trip
  idle : trip = true → check = none

theorem replace_bank {k j : BankNo} {b : Bank} {check : Option CheckRecord} {last : Option (BankNo × CheckResult)}
    {g : Governor} : (g.replace k b check last).banks[j] = if j = k then b else g.banks[j] := by
  unfold Governor.replace
  split
  · next same => subst same; exact setBank_self j b g
  · next other => exact setBank_ne k j b g other

section
variable {trip : Bool} {g : Governor} {k : BankNo} {b : Bank} {check : Option CheckRecord}
  {last : Option (BankNo × CheckResult)}

theorem replace_ratings (steady : g.Steady trip) (fits : Fits trip g k b check) (j : BankNo) :
    (g.replace k b check last).banks[j].rating ≤ 2000 := by
  rw [replace_bank]
  split
  · rw [fits.rating]; exact steady.ratings k
  · exact steady.ratings j

theorem replace_states (steady : g.Steady trip) (fits : Fits trip g k b check) : (g.replace k b check last).statesFit := by
  intro j
  rw [replace_bank]
  split
  · next same =>
    subst same
    have present := (steady.states j).2
    exact ⟨fits.checking, iff_of_false fits.absent (by rw [fits.rating, ← present]; exact fits.present)⟩
  · next other => exact ⟨(steady.states j).1.trans (fits.others j other).symm, (steady.states j).2⟩

theorem replace_outputs (steady : g.Steady trip) (fits : Fits trip g k b check) (j : BankNo) :
    (g.replace k b check last).banks[j].outputFits trip := by
  rw [replace_bank]
  split
  · exact fits.output
  · exact steady.outputs j

/-- R27: a bank that enters or leaves the Ready set. -/
theorem replace_reclamp_steady (steady : g.Steady trip) (fits : Fits trip g k b check) :
    ((g.replace k b check last).reclamp).Steady trip :=
  reclamp_steady steady.range steady.capped.2.1 (replace_ratings steady fits) fits.idle (replace_states steady fits)
    (replace_outputs steady fits)

/-- A bank that stays outside the Ready set. -/
theorem replace_steady (steady : g.Steady trip) (fits : Fits trip g k b check) (was : g.banks[k].state ≠ .ready)
    (is : b.state ≠ .ready) : (g.replace k b check last).Steady trip := by
  refine ⟨steady.range, ?_, replace_ratings steady fits, fits.idle, replace_states steady fits,
    replace_outputs steady fits⟩
  refine capped_of_sameReady (g := g) rfl rfl rfl (fun j => ?_) steady.capped
  rw [replace_bank]
  split
  · next same =>
    subst same
    have was : g.banks[j].isReady = false := by simpa [Bank.isReady] using was
    have is : b.isReady = false := by simpa [Bank.isReady] using is
    simp only [was, is, Bool.false_eq_true, false_imp_iff, and_self]
  · exact ⟨rfl, fun _ => rfl⟩

end

/-! ### The bank commands and the rows of banks -/

section
variable {trip : Bool} {g : Governor} {k : BankNo}

/-- R16: a bank that is neither Ready nor Checking is off. -/
theorem Governor.Steady.off (steady : g.Steady trip) (ready : g.banks[k].state ≠ .ready)
    (checking : g.banks[k].state ≠ .checking) : g.banks[k].on = false := by
  cases on : g.banks[k].on with
  | false => rfl
  | true => rcases (steady.outputs k).1 on with h | h <;> contradiction

/-- A bank that was not under check takes a state with its output off. -/
theorem Fits.of_off (steady : g.Steady trip) {b : Bank} (rating : b.rating = g.banks[k].rating)
    (absent : b.state ≠ .absent) (checking : b.state ≠ .checking) (present : g.banks[k].state ≠ .absent)
    (apart : g.banks[k].state ≠ .checking) (output : b.outputFits trip) : Fits trip g k b g.check :=
  ⟨rating, absent, present, iff_of_false checking fun h => apart ((steady.states k).1.mpr h), fun _ _ => Iff.rfl, output,
    steady.idle⟩

/-- The bank under check leaves the check. -/
theorem Fits.of_ended (steady : g.Steady trip) {b : Bank} (rating : b.rating = g.banks[k].rating)
    (absent : b.state ≠ .absent) (checking : b.state ≠ .checking) (under : g.underCheck = some k)
    (output : b.outputFits trip) : Fits trip g k b none := by
  have was := (steady.states k).1.mpr under
  refine ⟨rating, absent, by rw [was]; exact BankState.noConfusion, iff_of_false checking (by simp), fun j other => ?_,
    output, fun _ => rfl⟩
  refine iff_of_false (by simp) fun h => other ?_
  rw [under] at h
  exact (Option.some.inj h).symm

theorem Bank.outputFits_off {b : Bank} (off : b.on = false) (ready : b.state ≠ .ready) : b.outputFits trip :=
  ⟨fun h => absurd h (by simp [off]), fun _ h => absurd h ready⟩

theorem endCheck_steady (r : CheckResult) (steady : g.Steady trip) (under : g.underCheck = some k) :
    (g.endCheck k r).Steady trip := by
  have was := (steady.states k).1.mpr under
  exact replace_steady (b := ⟨g.banks[k].rating, .disabled, 0, 0, false⟩) steady
    (Fits.of_ended steady rfl (by simp) (by simp) under (Bank.outputFits_off rfl (by simp))) (was.trans_ne (by simp)) (by simp)

theorem disable_steady (steady : g.Steady trip) : (g.disable k).1.Steady trip := by
  unfold Governor.disable
  dsimp only
  split
  · next ready =>
    exact replace_reclamp_steady (last := g.lastCheck) steady (Fits.of_off steady rfl (by simp) (by simp) (ready.trans_ne (by simp))
      (ready.trans_ne (by simp)) (Bank.outputFits_off rfl (by simp)))
  all_goals exact steady

theorem enable_steady (steady : g.Steady trip) : (g.enable trip k).1.Steady trip := by
  unfold Governor.enable
  dsimp only
  split
  · exact steady
  · next free =>
    split
    · next disabled =>
      have off := steady.off (k := k) (disabled.trans_ne (by simp)) (disabled.trans_ne (by simp))
      exact replace_reclamp_steady (last := g.lastCheck) steady (Fits.of_off steady rfl (by simp) (by simp)
        (disabled.trans_ne (by simp)) (disabled.trans_ne (by simp)) ⟨fun _ => .inl rfl, fun h => absurd h free⟩)
    all_goals exact steady

theorem restoreBank_steady (steady : g.Steady trip) : (g.restoreBank trip k).1.Steady trip := by
  unfold Governor.restoreBank
  dsimp only
  split
  · exact steady
  · next free =>
    split
    · next failed =>
      exact replace_reclamp_steady (last := g.lastCheck) steady (Fits.of_off steady rfl (by simp) (by simp)
        (failed.trans_ne (by simp)) (failed.trans_ne (by simp)) ⟨fun _ => .inl rfl, fun h => absurd h free⟩)
    all_goals exact steady

theorem startCheck_steady (steady : g.Steady trip) : (g.startCheck trip k).1.Steady trip := by
  unfold Governor.startCheck
  dsimp only
  split_ifs with other tripped busy
  · exact steady
  · exact steady
  · exact steady
  · have disabled : g.banks[k].state = .disabled := not_not.mp other
    have none : g.check = none := by simpa using busy
    have under : ∀ j, g.underCheck = some j ↔ False := fun j => by simp [Governor.underCheck, none]
    refine replace_steady (last := g.lastCheck) steady ⟨rfl, by simp, disabled.trans_ne (by simp), by simp, fun j apart => ?_,
      ⟨fun _ => .inr rfl, fun _ h => absurd h (by simp)⟩, fun h => absurd h tripped⟩ (disabled.trans_ne (by simp)) (by simp)
    rw [under]
    simpa using Ne.symm apart

theorem ratings_any_of_le {r : Vector Half 8} (small : r.any (fun r => decide (2000 < r.toNat)) = false) (k : BankNo) :
    r[k].toNat ≤ 2000 := by
  have := (Vector.any_eq_false.mp small) k.val k.isLt
  simpa using this

theorem rerate_bank (r : Vector Half 8) (k : BankNo) :
    (g.rerate r).banks[k] = Bank.atReset r[k].toNat (g.banks[k].on && decide (r[k].toNat ≠ 0)) := by
  simp [Governor.rerate, Governor.reclamp]

/-- R33, R39: a bank with the state its rating gives. -/
theorem Bank.atReset_fits (rating : Nat) (on : Bool) :
    ((Bank.atReset rating on).state = .absent ↔ rating = 0) ∧ (Bank.atReset rating on).state ≠ .checking := by
  unfold Bank.atReset
  dsimp only
  split <;> simp_all

theorem Bank.atReset_outputFits (rating : Nat) (on : Bool) :
    (Bank.atReset rating (on && decide (rating ≠ 0))).outputFits false := by
  unfold Bank.outputFits Bank.atReset
  dsimp only
  split <;> simp_all

theorem setRatings_steady (lock : Bool) (r : Vector Half 8) (steady : g.Steady trip) :
    (g.setRatings lock trip r).1.Steady trip := by
  unfold Governor.setRatings
  split_ifs with _ large busy
  · exact steady
  · exact steady
  · exact steady
  · simp only [Bool.or_eq_true, not_or, Bool.not_eq_true, Option.isSome_eq_false_iff, Option.isNone_iff_eq_none] at busy
    obtain ⟨free, none⟩ := busy
    subst free
    have small := ratings_any_of_le (by simpa using large)
    refine reclamp_steady steady.range steady.capped.2.1 (fun k => ?_) (by simp) (fun k => ?_) fun k => ?_
    · change (g.rerate r).banks[k].rating ≤ 2000
      rw [rerate_bank]
      exact small k
    · change ((g.rerate r).banks[k].state = _ ↔ _) ∧ ((g.rerate r).banks[k].state = _ ↔ (g.rerate r).banks[k].rating = 0)
      rw [rerate_bank]
      have fits := Bank.atReset_fits r[k].toNat (g.banks[k].on && decide (r[k].toNat ≠ 0))
      exact ⟨iff_of_false fits.2 (by simp [Governor.underCheck, none]), fits.1⟩
    · change (g.rerate r).banks[k].outputFits false
      rw [rerate_bank]
      exact Bank.atReset_outputFits _ _

end

theorem bankFailedOpen_steady {s : State} (k : BankNo) (steady : s.gov.Steady s.prot.trip) :
    (s.bankFailedOpen k).gov.Steady s.prot.trip := by
  unfold State.bankFailedOpen
  dsimp only
  split
  · next lit =>
    simp only [Bool.and_eq_true, Bank.isReady_iff] at lit
    have ready : s.gov.banks[k].state = .ready := lit.1.1
    exact replace_reclamp_steady (last := s.gov.lastCheck) steady (Fits.of_off steady rfl (by simp) (by simp)
      (ready.trans_ne (by simp)) (ready.trans_ne (by simp)) (Bank.outputFits_off rfl (by simp)))
  · exact steady

theorem bankFailedStuck_steady {s : State} (k : BankNo) (steady : s.gov.Steady s.prot.trip) :
    (s.bankFailedStuck k).gov.Steady s.prot.trip := by
  unfold State.bankFailedStuck
  dsimp only
  split
  · next live =>
    have off : s.gov.banks[k].on = false := by simp at live; exact live.1
    have output : Bank.outputFits s.prot.trip { s.gov.banks[k] with state := .failed .stuck, stuck := 0 } :=
      Bank.outputFits_off off (by simp)
    split
    · next ready =>
      exact replace_reclamp_steady (last := s.gov.lastCheck) steady (Fits.of_off steady rfl (by simp) (by simp)
        (ready.trans_ne (by simp)) (ready.trans_ne (by simp)) output)
    · next disabled =>
      exact replace_steady (last := s.gov.lastCheck) steady (Fits.of_off steady rfl (by simp) (by simp)
        (disabled.trans_ne (by simp)) (disabled.trans_ne (by simp)) output) (disabled.trans_ne (by simp)) (by simp)
    · next checking =>
      exact replace_steady (last := some (k, .fail)) steady (Fits.of_ended steady rfl (by simp) (by simp)
        ((steady.states k).1.mp checking) output) (checking.trans_ne (by simp)) (by simp)
    · exact steady
    · exact steady
  · exact steady

theorem checkExhausted_steady {s : State} (steady : s.gov.Steady s.prot.trip) : s.checkExhausted.gov.Steady s.prot.trip := by
  unfold State.checkExhausted
  split
  · next c running =>
    split
    · exact endCheck_steady _ steady (by simp [Governor.underCheck, running])
    · exact steady
  · exact steady

theorem GovernorPart.steady {s u : State} (part : GovernorPart s u) (steady : s.gov.Steady s.prot.trip) :
    u.gov.Steady s.prot.trip := by
  cases part with
  | bankFailedOpen k => exact bankFailedOpen_steady k steady
  | bankFailedStuck k => exact bankFailedStuck_steady k steady
  | checkExhausted => exact checkExhausted_steady steady
  | bankDisable k => exact disable_steady steady
  | bankEnable k => exact enable_steady steady
  | bankReturn k => exact restoreBank_steady steady
  | bankCheck k => exact startCheck_steady steady
  | bankRatings r => exact setRatings_steady _ r steady
  | gains kp ki p i =>
    obtain ⟨⟨s1, f1, f2, e1, e2, -, -, o1, o2⟩, capped, ratings, idle, states, outputs⟩ := steady
    exact ⟨⟨s1, f1, f2, e1, e2, p, i, o1, o2⟩, capped, ratings, idle, states, outputs⟩

end Sys2Proof.Machine

/-! ## Proofs: a completion in the ballast governor (02_ballast_governing.md sections 2.4 to 2.9) -/

namespace Sys2Proof.Machine

/-! ### Bank health (R28, R29) -/

/-- Blank what bank health and the check change. -/
def Governor.exceptBanks (g : Governor) : Governor :=
  { g with
    bFine := 0, b := 0, carry := 0, banks := Vector.replicate 8 (Bank.atReset 0 false), check := none, lastCheck := none }

theorem judged_bank (prev : Vector Bool 8) (sense : BitVec 8) (g : Governor) (k : BankNo) :
    (g.judged prev sense).banks[k] = g.banks[k].judge prev[k] (sense.getLsbD k) := by
  simp [Governor.judged]

theorem health_bank (prev : Vector Bool 8) (sense : BitVec 8) (g : Governor) (k : BankNo) :
    (g.health prev sense).1.banks[k] = g.banks[k].judge prev[k] (sense.getLsbD k) := by
  rw [← judged_bank]
  unfold Governor.health
  dsimp only
  split <;> rfl

theorem health_check (prev : Vector Bool 8) (sense : BitVec 8) (g : Governor) :
    (g.health prev sense).1.check = g.check ∧ (g.health prev sense).1.lastCheck = g.lastCheck := by
  unfold Governor.health
  dsimp only
  split <;> exact ⟨rfl, rfl⟩

theorem health_exceptBanks (prev : Vector Bool 8) (sense : BitVec 8) (g : Governor) :
    (g.health prev sense).1.exceptBanks = g.exceptBanks := by
  unfold Governor.health
  dsimp only
  split <;> rfl

theorem readyLost_iff (g h : Governor) :
    Governor.readyLost g h = true ↔ ∃ k : BankNo, g.banks[k].state = .ready ∧ h.banks[k].state ≠ .ready := by
  simp only [Governor.readyLost, List.any_eq_true, mem_bankNos, true_and, Bool.and_eq_true, Bool.not_eq_true',
    Bank.isReady, decide_eq_true_eq, decide_eq_false_iff_not, ne_eq]

theorem stateChanged_iff (g h : Governor) :
    Governor.stateChanged g h = true ↔ ∃ k : BankNo, h.banks[k].state ≠ g.banks[k].state := by
  simp only [Governor.stateChanged, List.any_eq_true, mem_bankNos, true_and, decide_eq_true_eq]

/-- R27: stage 0 without a Ready bank lost. -/
theorem health_of_kept {prev : Vector Bool 8} {sense : BitVec 8} {g : Governor}
    (kept : ∀ k : BankNo, g.banks[k].state = .ready → (g.judged prev sense).banks[k].state = .ready) :
    (g.health prev sense).1 = g.judged prev sense := by
  have none : ¬ Governor.readyLost g (g.judged prev sense) = true := by
    rw [readyLost_iff]
    rintro ⟨k, was, lost⟩
    exact lost (kept k was)
  simp [Governor.health, none]

/-- R27: stage 0 with a Ready bank lost. -/
theorem health_of_lost {prev : Vector Bool 8} {sense : BitVec 8} {g : Governor} {k : BankNo}
    (was : g.banks[k].state = .ready) (lost : (g.judged prev sense).banks[k].state ≠ .ready) :
    (g.health prev sense).1 = (g.judged prev sense).reclamp := by
  have some : Governor.readyLost g (g.judged prev sense) = true := (readyLost_iff _ _).mpr ⟨k, was, lost⟩
  simp [Governor.health, some]

/-- R28: a Ready bank that is on. -/
theorem judge_of_on {b : Bank} (sense : Bool) (ready : b.state = .ready) :
    b.judge true sense =
      if sense then { b with miss := 0, stuck := 0 }
      else if b.miss = 0 then { b with miss := 1, stuck := 0 }
      else { b with state := .failed .openCircuit, miss := 0, stuck := 0 } := by
  simp only [Bank.judge, ready, if_true, Bank.judgeOn]
  by_cases zero : b.miss = 0
  · simp [zero]
  · simp [zero, Nat.one_le_iff_ne_zero]

/-- R29: a bank whose output is off. -/
theorem judgeOff_eq (sense : Bool) (b : Bank) :
    b.judgeOff sense =
      if sense then
        (if b.stuck = 0 then { b with stuck := 1 } else { b with state := .failed .stuck, stuck := 0 })
      else { b with stuck := 0 } := by
  unfold Bank.judgeOff
  by_cases zero : b.stuck = 0
  · simp [zero]
  · simp [zero, Nat.one_le_iff_ne_zero]

theorem judge_of_off {b : Bank} (sense : Bool) (ready : b.state = .ready) :
    b.judge false sense = Bank.judgeOff sense { b with miss := 0 } := by
  simp [Bank.judge, ready]

/-- R29: a Disabled bank, or the bank under check. -/
theorem judge_of_idle {b : Bank} (on sense : Bool) (idle : b.state = .disabled ∨ b.state = .checking) :
    b.judge on sense = if on then { b with stuck := 0 } else b.judgeOff sense := by
  rcases idle with state | state <;> simp [Bank.judge, state]

theorem judge_of_out {b : Bank} (on sense : Bool) (out : b.state = .absent ∨ ∃ r, b.state = .failed r) :
    b.judge on sense = b := by
  rcases out with state | ⟨r, state⟩ <;> simp [Bank.judge, state]

/-- The states of a bank. -/
theorem BankState.cases (x : BankState) :
    x = .ready ∨ (x = .disabled ∨ x = .checking) ∨ (x = .absent ∨ ∃ r, x = .failed r) := by
  cases x <;> simp

/-- R28, R29: what a judgement leaves of a bank. -/
theorem judge_spec (on sense : Bool) (b : Bank) :
    (b.judge on sense).rating = b.rating ∧ (b.judge on sense).on = b.on ∧
      ((b.judge on sense).state = b.state ∨
        (b.state ≠ .absent ∧ ∃ r, (b.judge on sense).state = .failed r)) := by
  rcases b.state.cases with ready | idle | out
  · cases on
    · rw [judge_of_off _ ready, judgeOff_eq]
      split_ifs <;> simp [ready]
    · rw [judge_of_on _ ready]
      split_ifs <;> simp [ready]
  · have present : b.state ≠ .absent := by rcases idle with h | h <;> simp [h]
    rw [judge_of_idle _ _ idle, judgeOff_eq]
    split_ifs <;> simp [present]
  · rw [judge_of_out _ _ out]
    exact ⟨rfl, rfl, .inl rfl⟩

/-! ### The bank commands and the rows of banks: exact next states (O11, O12, O13) -/

theorem reclamp_replace_eq (g : Governor) (k : BankNo) (b : Bank) : (g.setBank k b).reclamp = { g with
    banks := g.banks.set k b
    bFine := min g.bFine (1024 * (g.setBank k b).reclamp.bCap)
    carry := min g.carry (g.setBank k b).reclamp.carryBound
    b := min g.b (g.setBank k b).reclamp.bCap } := rfl

theorem reclamp_bCap (g : Governor) : g.reclamp.bCap = g.bCap := rfl

/-- B_cap where a Ready bank is lost. -/
theorem bCap_of_lost {g : Governor} {k : BankNo} {b : Bank} (was : g.banks[k].state = .ready) (lost : b.state ≠ .ready) :
    (g.setBank k b).bCap + g.banks[k].rating = g.bCap := by
  have ready : g.banks[k].isReady = true := (Bank.isReady_iff _).mpr was
  have out : b.isReady = false := by simpa [Bank.isReady] using lost
  have := bCap_setBank g k b
  rw [Bank.readyShare, if_pos ready, Bank.readyShare, out] at this
  simpa using this

/-- B_cap where a bank becomes Ready. -/
theorem bCap_of_gained {g : Governor} {k : BankNo} {b : Bank} (was : g.banks[k].state ≠ .ready) (gained : b.state = .ready) :
    (g.setBank k b).bCap = g.bCap + b.rating := by
  have ready : b.isReady = true := (Bank.isReady_iff _).mpr gained
  have out : g.banks[k].isReady = false := by simpa [Bank.isReady] using was
  have := bCap_setBank g k b
  rw [Bank.readyShare, if_neg (by rw [out]; exact Bool.false_ne_true), Bank.readyShare, if_pos ready] at this
  exact this

theorem bankCommand_of_some {bank : Byte} {k : BankNo} (f : State → BankNo → Governor × Result) (s : State)
    (here : bankOf bank = some k) : bankCommand bank f s = ({ s with gov := (f s k).1 }, .plain (f s k).2) := by
  rw [bankCommand, here]

section
variable {bank : Byte} {k : BankNo} {s : State}

theorem exec_bankDisable (taken : s.accepts) (here : bankOf bank = some k) :
    exec (.bankDisable bank) s =
      .next (State.answer 0x12 100 (.plain (s.gov.disable k).2) { s with gov := (s.gov.disable k).1 }) := by
  have row : exec (.bankDisable bank) s = execBankDisable bank s := rfl
  rw [row, execBankDisable, command_of_accepts _ _ _ s taken.1 taken.2, bankCommand_of_some _ s here, promptBound]

theorem exec_bankEnable (taken : s.accepts) (here : bankOf bank = some k) :
    exec (.bankEnable bank) s =
      .next (State.answer 0x13 100 (.plain (s.gov.enable s.prot.trip k).2)
        { s with gov := (s.gov.enable s.prot.trip k).1 }) := by
  have row : exec (.bankEnable bank) s = execBankEnable bank s := rfl
  rw [row, execBankEnable, command_of_accepts _ _ _ s taken.1 taken.2, bankCommand_of_some _ s here, promptBound]

theorem exec_bankReturn (taken : s.accepts) (here : bankOf bank = some k) :
    exec (.bankReturn bank) s =
      .next (State.answer 0x14 100 (.plain (s.gov.restoreBank s.prot.trip k).2)
        { s with gov := (s.gov.restoreBank s.prot.trip k).1 }) := by
  have row : exec (.bankReturn bank) s = execBankReturn bank s := rfl
  rw [row, execBankReturn, command_of_accepts _ _ _ s taken.1 taken.2, bankCommand_of_some _ s here, promptBound]

theorem exec_bankCheck (taken : s.accepts) (here : bankOf bank = some k) :
    exec (.bankCheck bank) s =
      .next (State.answer 0x15 100 (.plain (s.gov.startCheck s.prot.trip k).2)
        { s with gov := (s.gov.startCheck s.prot.trip k).1 }) := by
  have row : exec (.bankCheck bank) s = execBankCheck bank s := rfl
  rw [row, execBankCheck, command_of_accepts _ _ _ s taken.1 taken.2, bankCommand_of_some _ s here, promptBound]

theorem disable_of_ready {g : Governor} (ready : g.banks[k].state = .ready) :
    g.disable k = ((g.setBank k ⟨g.banks[k].rating, .disabled, 0, 0, false⟩).reclamp, .done) := by
  unfold Governor.disable
  dsimp only
  split <;> simp_all

theorem enable_of_disabled {g : Governor} (disabled : g.banks[k].state = .disabled) :
    g.enable false k = ((g.setBank k { g.banks[k] with state := .ready }).reclamp, .done) := by
  unfold Governor.enable
  dsimp only
  rw [if_neg Bool.false_ne_true]
  split <;> simp_all

theorem restoreBank_of_failed {g : Governor} {r : FailReason} (failed : g.banks[k].state = .failed r) :
    g.restoreBank false k = ((g.setBank k { g.banks[k] with state := .ready, miss := 0, stuck := 0 }).reclamp, .done) := by
  unfold Governor.restoreBank
  dsimp only
  rw [if_neg Bool.false_ne_true]
  split <;> simp_all

theorem startCheck_of_disabled {g : Governor} (disabled : g.banks[k].state = .disabled) (idle : g.check = none) :
    g.startCheck false k =
      ({ g.setBank k { g.banks[k] with state := .checking } with check := some ⟨k, 0, false⟩ }, .started) := by
  unfold Governor.startCheck
  dsimp only
  rw [if_neg (not_not.mpr disabled), if_neg Bool.false_ne_true, if_neg (by simp [idle])]

/-- R31, R32, R34: in a trip the three commands are answered STATE. -/
theorem bankCommands_in_trip (g : Governor) (k : BankNo) :
    g.enable true k = (g, .state) ∧ g.restoreBank true k = (g, .state) ∧ g.startCheck true k = (g, .state) := by
  refine ⟨rfl, rfl, ?_⟩
  unfold Governor.startCheck
  dsimp only
  split <;> rfl

end

/-- Settles O11. -/
theorem bankCommandsMoveTheReadySet : Obligations.BankCommandsMoveTheReadySet := by
  intro bank k s taken here
  refine ⟨fun ready => ?_, fun disabled free => ?_, fun r failed free => ?_, fun disabled free idle => ?_, fun trip => ?_⟩
  · rw [exec_bankDisable taken here, disable_of_ready ready]
    exact ⟨_, rfl, reclamp_replace_eq _ _ _, bCap_of_lost ready (by simp)⟩
  · rw [exec_bankEnable taken here, free, enable_of_disabled disabled]
    exact ⟨_, rfl, reclamp_replace_eq _ _ _, bCap_of_gained (disabled.trans_ne (by simp)) rfl⟩
  · rw [exec_bankReturn taken here, free, restoreBank_of_failed failed]
    exact ⟨_, rfl, reclamp_replace_eq _ _ _, bCap_of_gained (failed.trans_ne (by simp)) rfl⟩
  · rw [exec_bankCheck taken here, free, startCheck_of_disabled disabled idle]
    rfl
  · obtain ⟨enable, back, check⟩ := bankCommands_in_trip s.gov k
    rw [exec_bankEnable taken here, exec_bankReturn taken here, exec_bankCheck taken here, trip, enable, back, check]
    exact ⟨rfl, rfl, rfl⟩

end Sys2Proof.Machine

/-! ## Proofs: BANK RATINGS, bank health and the check (O12, O13), and the control law (O9) -/

namespace Sys2Proof.Machine

/-- What a host command that is taken does. -/
theorem exec_of_command {i : Instr} {code : Byte} {bound : Nat} {f : State → State × Reply} {s : State} (taken : s.accepts)
    (row : exec i s = command code bound f s) : exec i s = .next (State.answer code bound (f s).2 (f s).1) :=
  row.trans (command_of_accepts code bound f s taken.1 taken.2)

/-! ### BANK RATINGS (R33) -/

theorem exec_bankRatings {s : State} (ratings : Vector Half 8) (taken : s.accepts) :
    exec (.bankRatings ratings) s =
      .next (State.answer 0x16 100 (.plain (s.gov.setRatings s.prot.lock s.prot.trip ratings).2)
        { s with gov := (s.gov.setRatings s.prot.lock s.prot.trip ratings).1 }) :=
  exec_of_command (i := .bankRatings ratings) taken (show exec _ s = execBankRatings ratings s from rfl)

theorem ratings_any_iff (r : Vector Half 8) :
    r.any (fun r => decide (2000 < r.toNat)) = true ↔ ∃ k : BankNo, 2000 < r[k].toNat := by
  constructor
  · intro large
    obtain ⟨i, hi, big⟩ := Vector.any_eq_true.mp large
    exact ⟨⟨i, hi⟩, by simpa using big⟩
  · rintro ⟨k, big⟩
    exact Vector.any_eq_true.mpr ⟨k.val, k.isLt, by simpa using big⟩

/-- R33: B_cap is the sum of the new ratings. -/
theorem rerate_bCap (r : Vector Half 8) (g : Governor) : (g.rerate r).bCap = (r.toList.map BitVec.toNat).sum := by
  have share : ∀ k : BankNo, (g.rerate r).banks[k].readyShare = r[k].toNat := fun k => by
    rw [rerate_bank, Bank.readyShare, Bank.isReady, Bank.atReset]
    by_cases zero : r[k].toNat = 0
    · simp only [zero, if_true]; rfl
    · rw [if_neg zero]; rfl
  have list : r.toList = bankNos.map (fun k : BankNo => r[k]) := by
    apply List.ext_getElem <;> simp [bankNos]
  rw [bCap_eq, list, List.map_map]
  simp only [share]
  exact Fin.sum_univ_def _

/-- Settles O12. -/
theorem bankRatingsReplaceTheTable : Obligations.BankRatingsReplaceTheTable := by
  intro ratings s taken
  have small : (∀ k : BankNo, ratings[k].toNat ≤ 2000) → ¬ ratings.any (fun r => decide (2000 < r.toNat)) = true := by
    rw [ratings_any_iff]
    rintro small ⟨k, big⟩
    exact absurd (small k) (by omega)
  rw [exec_bankRatings ratings taken]
  unfold Governor.setRatings
  refine ⟨fun locked => ?_, fun free large => ?_, fun free inRange busy => ?_, fun free inRange calm idle => ?_⟩
  · rw [if_pos locked]
  · rw [if_neg (by simp [free]), if_pos ((ratings_any_iff ratings).mpr large)]
  · have busy : (s.prot.trip || s.gov.check.isSome) = true := by
      rcases busy with h | h
      · simp [h]
      · simp [Option.isSome_iff_ne_none.mpr h]
    rw [if_neg (by simp [free]), if_neg (small inRange), if_pos busy]
  · rw [if_neg (by simp [free]), if_neg (small inRange), if_neg (by simp [calm, idle])]
    exact ⟨_, rfl, rerate_bank ratings, rfl, rerate_bCap ratings s.gov⟩

/-! ### Bank health at stage 0 (R27 to R29) -/

section
variable (prev : Vector Bool 8) (sense : BitVec 8) (g : Governor)

theorem health_attn : (g.health prev sense).2 =
    if ∃ k : BankNo, (g.health prev sense).1.banks[k].state ≠ g.banks[k].state then [.bank] else [] := by
  have bank : ∀ k : BankNo, (g.judged prev sense).banks[k] = (g.health prev sense).1.banks[k] := fun k => by
    rw [judged_bank, health_bank]
  have changed := stateChanged_iff g (g.judged prev sense)
  simp only [bank] at changed
  show (if Governor.stateChanged g (g.judged prev sense) = true then [Attn.bank] else []) = _
  simp only [changed]

theorem health_bank_of_ready (k : BankNo) (ready : g.banks[k].state = .ready) :
    (prev[k] = true → (g.health prev sense).1.banks[k] =
      if sense.getLsbD k then { g.banks[k] with miss := 0, stuck := 0 }
      else if g.banks[k].miss = 0 then { g.banks[k] with miss := 1, stuck := 0 }
      else { g.banks[k] with state := .failed .openCircuit, miss := 0, stuck := 0 }) ∧
    (prev[k] = false →
      (g.health prev sense).1.banks[k] = Bank.judgeOff (sense.getLsbD k) { g.banks[k] with miss := 0 }) := by
  rw [health_bank]
  exact ⟨fun on => by rw [on, judge_of_on _ ready], fun off => by rw [off, judge_of_off _ ready]⟩

end

/-- R28, R29, R27: bank health at stage 0. -/
theorem health_spec (prev : Vector Bool 8) (sense : BitVec 8) (g : Governor) :
    let t := (g.health prev sense).1
    (∀ k : BankNo,
      let b := g.banks[k]
      let seen := sense.getLsbD k
      let dark := { b with stuck := 0 }
      let live := if b.stuck = 0 then { b with stuck := 1 } else { b with state := .failed .stuck, stuck := 0 }
      (b.state = .ready → prev[k] = true → t.banks[k] =
        if seen then { dark with miss := 0 }
        else if b.miss = 0 then { dark with miss := 1 }
        else { dark with state := .failed .openCircuit, miss := 0 }) ∧
      (b.state = .ready → prev[k] = false → t.banks[k] = { (if seen then live else dark) with miss := 0 }) ∧
      (b.state = .disabled ∨ b.state = .checking → t.banks[k] = if seen = true ∧ prev[k] = false then live else dark) ∧
      (b.state = .absent ∨ (∃ r, b.state = .failed r) → t.banks[k] = b)) ∧
    ((∀ k : BankNo, g.banks[k].state = .ready → t.banks[k].state = .ready) → t = { g with banks := t.banks }) ∧
    (∀ k : BankNo, g.banks[k].state = .ready → t.banks[k].state ≠ .ready → t = { g with
      banks := t.banks
      bFine := min g.bFine (1024 * t.bCap), carry := min g.carry t.carryBound, b := min g.b t.bCap }) := by
  have judged : ∀ k : BankNo, (g.judged prev sense).banks[k] = (g.health prev sense).1.banks[k] := fun k => by
    rw [judged_bank, health_bank]
  refine ⟨fun k => ⟨fun ready on => (health_bank_of_ready prev sense g k ready).1 on, fun ready off => ?_,
    fun idle => ?_, fun out => ?_⟩, fun kept => ?_, fun k was lost => ?_⟩
  · rw [(health_bank_of_ready prev sense g k ready).2 off, judgeOff_eq]
    split_ifs <;> rfl
  · rw [health_bank, judge_of_idle _ _ idle, judgeOff_eq]
    cases prev[k] <;> simp
  · rw [health_bank, judge_of_out _ _ out]
  · rw [health_of_kept fun k was => by rw [judged]; exact kept k was]
    rfl
  · rw [health_of_lost was (by rw [judged]; exact lost)]
    rfl

/-! ### The bank check within a completion (R35) -/

/-- R15, R20 to R25: stages 2 to 8 outside a trip, from the governor of stage 0. -/
def Governor.controlled (f fset : Int) (first : Bool) (sense : BitVec 8) (g : Governor) : Governor :=
  (g.checkResult sense).1.control f fset first

theorem take_free (fset : Int) (prev : Vector Bool 8) (sense : BitVec 8) (c : Completion) (g : Governor) :
    g.take false fset prev sense c =
      (((g.health prev sense).1.controlled c.f fset c.first sense).command.1,
        (g.health prev sense).2 ++ ((g.health prev sense).1.checkResult sense).2 ++
          ((g.health prev sense).1.controlled c.f fset c.first sense).command.2) := rfl

section
variable {g : Governor} {k : BankNo}

theorem checkResult_of_none (sense : BitVec 8) (idle : g.check = none) : g.checkResult sense = (g, []) := by
  rw [Governor.checkResult, idle]

theorem checkResult_of_chosen {w : Nat} (sense : BitVec 8) (running : g.check = some ⟨k, w, true⟩) :
    g.checkResult sense = (g.endCheck k (if sense.getLsbD k then .pass else .fail), [.check]) := by
  rw [Governor.checkResult, running]
  rfl

theorem checkResult_of_failed {w : Nat} {r : FailReason} (sense : BitVec 8) (running : g.check = some ⟨k, w, false⟩)
    (failed : g.banks[k].state = .failed r) : g.checkResult sense = (g.failCheck k, [.check]) := by
  simp only [Governor.checkResult, running, Bool.false_eq_true, if_false]
  rw [failed]

theorem checkResult_of_checking {w : Nat} (sense : BitVec 8) (running : g.check = some ⟨k, w, false⟩)
    (checking : g.banks[k].state = .checking) : g.checkResult sense = (g, []) := by
  simp only [Governor.checkResult, running, Bool.false_eq_true, if_false]
  rw [checking]

/-- R24: only a Ready bank or the bank under check is chosen. -/
theorem not_selected (ready : g.banks[k].state ≠ .ready) (checking : g.banks[k].state ≠ .checking) :
    k ∉ g.select.1 := fun chosen => by
  rcases (mem_offered g k).mp ((select_sublist g).subset chosen) with h | h <;> contradiction

/-- Stages 6 to 8 without a check. -/
theorem command_of_idle (idle : g.check = none) :
    g.command = ({ g.driven with s := g.s + g.b - g.s / 16 }, []) := by
  have same : g.driven.checkOffered g.select.1 = (g.driven, []) := checkOffered_of_none _ idle
  exact Prod.ext (by rw [command_fst, same]) (by rw [command_snd, same])

/-- R16: a bank that is off, and neither Ready nor under check, is left as it is. -/
theorem command_bank_of_out (idle : g.check = none) (ready : g.banks[k].state ≠ .ready)
    (checking : g.banks[k].state ≠ .checking) : g.command.1.banks[k] = { g.banks[k] with on := false } := by
  rw [command_of_idle idle]
  show g.driven.banks[k] = _
  rw [driven_bank, decide_eq_false (not_selected ready checking)]

end

/-- R29: BANK is raised where bank k failed. -/
theorem bank_mem_health {prev : Vector Bool 8} {sense : BitVec 8} {g : Governor} {k : BankNo}
    (changed : (g.health prev sense).1.banks[k].state ≠ g.banks[k].state) : .bank ∈ (g.health prev sense).2 := by
  rw [health_attn, if_pos ⟨k, changed⟩]
  exact List.mem_singleton_self _

theorem check_not_mem_health (prev : Vector Bool 8) (sense : BitVec 8) (g : Governor) :
    Attn.check ∉ (g.health prev sense).2 := by
  rw [health_attn]
  split <;> simp

section
variable (fset : Int) {prev : Vector Bool 8} {sense : BitVec 8} (c : Completion) {g : Governor} {k : BankNo} {w : Nat}

/-- R35: the completion after the one that chose the bank. -/
theorem take_of_chosen (running : g.check = some ⟨k, w, true⟩) :
    let r := g.take false fset prev sense c
    r.1.banks[k] = ⟨g.banks[k].rating, .disabled, 0, 0, false⟩ ∧ r.1.check = none ∧
      r.1.lastCheck = some (k, if sense.getLsbD k then .pass else .fail) ∧ .check ∈ r.2 := by
  have running : (g.health prev sense).1.check = some ⟨k, w, true⟩ := (health_check prev sense g).1.trans running
  have result := checkResult_of_chosen sense running
  have rating : (g.health prev sense).1.banks[k].rating = g.banks[k].rating := by
    rw [health_bank]; exact (judge_spec _ _ _).1
  rw [take_free, Governor.controlled, result]
  generalize (g.health prev sense).1 = h at rating
  have bank : ((h.endCheck k (if sense.getLsbD k then .pass else .fail)).control c.f fset c.first).banks[k] =
      ⟨g.banks[k].rating, .disabled, 0, 0, false⟩ := by
    rw [← rating]; exact endCheck_self k (if sense.getLsbD k then .pass else .fail) h
  generalize made : (h.endCheck k (if sense.getLsbD k then .pass else .fail)).control c.f fset c.first = q at bank
  have idle : q.check = none := by rw [← made]; rfl
  have last : q.lastCheck = some (k, if sense.getLsbD k then .pass else .fail) := by rw [← made]; rfl
  refine ⟨?_, ?_, ?_, by simp⟩
  · show q.command.1.banks[k] = _
    rw [command_bank_of_out idle (by rw [bank]; simp) (by rw [bank]; simp), bank]
  · show q.command.1.check = none
    rw [command_of_idle idle]; exact idle
  · show q.command.1.lastCheck = _
    rw [command_of_idle idle]; exact last

/-- R29, R35: a bank under check found Stuck. -/
theorem take_of_stuck (running : g.check = some ⟨k, w, false⟩) (checking : g.banks[k].state = .checking)
    (off : prev[k] = false) (seen : sense.getLsbD k = true) (again : g.banks[k].stuck = 1) :
    let r := g.take false fset prev sense c
    r.1.banks[k].state = .failed .stuck ∧ r.1.banks[k].on = false ∧ r.1.check = none ∧
      r.1.lastCheck = some (k, .fail) ∧ .bank ∈ r.2 ∧ .check ∈ r.2 := by
  have running : (g.health prev sense).1.check = some ⟨k, w, false⟩ := (health_check prev sense g).1.trans running
  have failed : (g.health prev sense).1.banks[k].state = .failed .stuck := by
    rw [health_bank, judge_of_idle _ _ (.inr checking), off, seen, judgeOff_eq, again]
    rfl
  have raised : .bank ∈ (g.health prev sense).2 := bank_mem_health (k := k) (by rw [failed, checking]; simp)
  have result := checkResult_of_failed sense running failed
  rw [take_free, Governor.controlled, result]
  generalize (g.health prev sense).1 = h at failed
  have bank : ((h.failCheck k).control c.f fset c.first).banks[k].state = .failed .stuck := failed
  generalize made : (h.failCheck k).control c.f fset c.first = q at bank
  have idle : q.check = none := by rw [← made]; rfl
  have last : q.lastCheck = some (k, .fail) := by rw [← made]; rfl
  have out : q.command.1.banks[k] = { q.banks[k] with on := false } :=
    command_bank_of_out idle (bank.trans_ne (by simp)) (bank.trans_ne (by simp))
  refine ⟨?_, ?_, ?_, ?_, List.mem_append_left _ (List.mem_append_left _ raised), by simp⟩
  · show q.command.1.banks[k].state = _
    rw [out]; exact bank
  · show q.command.1.banks[k].on = _
    rw [out]
  · show q.command.1.check = none
    rw [command_of_idle idle]; exact idle
  · show q.command.1.lastCheck = _
    rw [command_of_idle idle]; exact last

/-- R35: a bank under check that is dark is offered, and the choice marked or the window counted. -/
theorem take_of_dark (running : g.check = some ⟨k, w, false⟩) (checking : g.banks[k].state = .checking)
    (dark : sense.getLsbD k = false) :
    let r := g.take false fset prev sense c
    (r.1.banks[k].on = true → r.1.check = some ⟨k, w, true⟩ ∧ .check ∉ r.2) ∧
      (r.1.banks[k].on = false → w < 49 → r.1.check = some ⟨k, w + 1, false⟩ ∧ .check ∉ r.2) ∧
      (r.1.banks[k].on = false → w = 49 → r.1.banks[k] = ⟨g.banks[k].rating, .disabled, 0, 0, false⟩ ∧
        r.1.check = none ∧ r.1.lastCheck = some (k, .notExercised) ∧ .check ∈ r.2) := by
  have running : (g.health prev sense).1.check = some ⟨k, w, false⟩ := (health_check prev sense g).1.trans running
  have rating : (g.health prev sense).1.banks[k].rating = g.banks[k].rating := by
    rw [health_bank]; exact (judge_spec _ _ _).1
  have stays : (g.health prev sense).1.banks[k].state = .checking := by
    rw [health_bank, judge_of_idle _ _ (.inr checking), dark, judgeOff_eq]
    split <;> exact checking
  have quiet := check_not_mem_health prev sense g
  have result := checkResult_of_checking sense running stays
  rw [take_free, Governor.controlled, result]
  generalize (g.health prev sense).2 = flags at quiet
  generalize made : Governor.control c.f fset c.first (g.health prev sense).1 = q
  have running : q.check = some ⟨k, w, false⟩ := by rw [← made]; exact running
  have rating : q.driven.banks[k].rating = g.banks[k].rating := by rw [driven_bank, ← made]; exact rating
  have on := command_on q k
  show (q.command.1.banks[k].on = true → _) ∧ (q.command.1.banks[k].on = false → _) ∧ (q.command.1.banks[k].on = false → _)
  have passed : q.command.1.banks[k].on = false → k ∉ q.select.1 := fun off => by
    rw [← on, off]; exact Bool.false_ne_true
  refine ⟨fun lit => ?_, fun off more => ?_, fun off last => ?_⟩
  · have offered := checkOffered_of_mem (g := q.driven) running (on.mp lit)
    refine ⟨?_, by rw [command_snd, offered]; simpa using quiet⟩
    rw [command_fst, offered]
  · have offered := checkOffered_of_more (g := q.driven) running (passed off) more
    refine ⟨?_, by rw [command_snd, offered]; simpa using quiet⟩
    rw [command_fst, offered]
  · have offered := checkOffered_of_last (g := q.driven) running (passed off) (Nat.le_of_eq last.symm)
    refine ⟨?_, ?_, ?_, by rw [command_snd, offered]; simp⟩
    all_goals rw [command_fst, offered]
    · rw [← rating]; exact endCheck_self k .notExercised _
    · rfl
    · rfl

end

/-! ### The rows of a bank and of the check (R28, R29, R35) -/

section
variable {k : BankNo} {s : State}

theorem bankFailedOpen_of (ready : s.gov.banks[k].state = .ready) (on : s.gov.banks[k].on = true)
    (dark : s.gov.banks[k].miss = 1) : s.bankFailedOpen k =
      State.raise .bank { s with
        gov := (s.gov.setBank k ⟨s.gov.banks[k].rating, .failed .openCircuit, 0, 0, false⟩).reclamp } := by
  unfold State.bankFailedOpen
  dsimp only
  rw [if_pos]
  rw [(Bank.isReady_iff _).mpr ready, on, dark]
  rfl

theorem bankFailedStuck_of (ready : s.gov.banks[k].state = .ready) (off : s.gov.banks[k].on = false)
    (seen : s.gov.banks[k].stuck = 1) : s.bankFailedStuck k =
      State.raise .bank { s with
        gov := (s.gov.setBank k { s.gov.banks[k] with state := .failed .stuck, stuck := 0 }).reclamp } := by
  unfold State.bankFailedStuck
  dsimp only
  rw [if_pos (by rw [off, seen]; rfl)]
  split <;> simp_all

theorem checkExhausted_of {c : CheckRecord} (running : s.gov.check = some c) (unchosen : c.chosen = false)
    (last : c.windows = 49) :
    s.checkExhausted = State.raise .check { s with gov := s.gov.endCheck c.bank .notExercised } := by
  simp [State.checkExhausted, running, unchosen, last, checkWindows]

end

/-- Settles O13. -/
theorem bankFailuresAndCheckEnd : Obligations.BankFailuresAndCheckEnd := by
  refine ⟨fun prev sense g => ?health, fun fset prev sense c g k w => ?check, fun k s awake => ?rows⟩
  case health =>
    obtain ⟨banks, kept, lost⟩ := health_spec prev sense g
    exact ⟨banks, kept, lost, health_attn prev sense g⟩
  case check =>
    exact ⟨take_of_chosen fset c, fun running checking off seen again =>
      take_of_stuck fset c running checking off seen again, take_of_dark fset c⟩
  case rows =>
    refine ⟨fun ready on dark => ?_, fun ready off seen => ?_, fun c running bank unchosen last => ?_⟩
    · have row : exec (.bankFailedOpen k) s = .next (s.bankFailedOpen k) := live_of_awake _ s awake
      rw [row, bankFailedOpen_of ready on dark]
      exact ⟨_, rfl, reclamp_replace_eq _ _ _, bCap_of_lost ready (by simp)⟩
    · have row : exec (.bankFailedStuck k) s = .next (s.bankFailedStuck k) := live_of_awake _ s awake
      rw [row, bankFailedStuck_of ready off seen]
      exact ⟨_, rfl, reclamp_replace_eq _ _ _, bCap_of_lost ready (by simp)⟩
    · have row : exec .checkWindowsExhausted s = .next s.checkExhausted := live_of_awake _ s awake
      subst bank
      rw [row, checkExhausted_of running unchosen last]
      rfl

end Sys2Proof.Machine

/-! ## Proofs: the control law (O9), and the governor through every step (O51) -/

namespace Sys2Proof.Machine

/-! ### Stages 0 to 8 (R15, R20 to R25) -/

theorem checkResult_exceptBanks (sense : BitVec 8) (g : Governor) : (g.checkResult sense).1.exceptBanks = g.exceptBanks := by
  unfold Governor.checkResult
  split
  · rfl
  · split
    · rfl
    · split <;> rfl

/-- What bank health and the check leave, field by field. -/
theorem fields_of_exceptBanks {g h : Governor} (same : h.exceptBanks = g.exceptBanks) :
    h.s = g.s ∧ h.ff = g.ff ∧ h.ePrev = g.ePrev ∧ h.reseed = g.reseed ∧ h.kp = g.kp ∧ h.ki = g.ki ∧ h.offset = g.offset := by
  simpa [Governor.exceptBanks] using same

theorem checkResult_rating (sense : BitVec 8) (g : Governor) (k : BankNo) :
    (g.checkResult sense).1.banks[k].rating = g.banks[k].rating := by
  unfold Governor.checkResult
  split
  · rfl
  · next c _ =>
    split
    · dsimp only
      by_cases same : k = c.bank
      · subst same; rw [endCheck_self]
      · rw [endCheck_ne _ _ _ _ same]
    · split <;> rfl

theorem control_bFine (f fset : Int) (first : Bool) (g : Governor) :
    ((g.control f fset first).bFine : Int) = max 0 (min (1024 * (g.bCap : Int)) ((g.bFine : Int) + 1024 * g.ff +
      (g.kp : Int) * (f - fset - (if first || g.reseed then f - fset else g.ePrev)) + (g.ki : Int) * (f - fset))) :=
  Int.toNat_of_nonneg (clampInt_bounds 0 _ _ (by omega)).1

theorem command_rating (g : Governor) (k : BankNo) : g.command.1.banks[k].rating = g.banks[k].rating := by
  have driven : g.driven.banks[k].rating = g.banks[k].rating := by rw [driven_bank]
  rw [command_fst]
  rcases checkOffered_cases g.select.1 g.driven with ⟨-, h⟩ | ⟨c, -, ⟨-, h⟩ | ⟨-, -, h⟩ | ⟨-, -, h⟩⟩ <;> rw [h]
  · exact driven
  · exact driven
  · by_cases same : k = c.bank
    · subst same
      exact (congrArg Bank.rating (endCheck_self c.bank .notExercised g.driven)).trans driven
    · exact (congrArg Bank.rating (endCheck_ne c.bank k .notExercised g.driven same)).trans driven
  · exact driven

/-- Settles O9. -/
theorem completionFollowsTheControlLaw : Obligations.CompletionFollowsTheControlLaw := by
  intro fset prev sense c g h
  have blank : h.exceptBanks = g.exceptBanks := (checkResult_exceptBanks sense _).trans (health_exceptBanks prev sense g)
  obtain ⟨hs, hff, he, hr, hp, hi, ho⟩ := fields_of_exceptBanks blank
  have rating : ∀ k : BankNo, h.banks[k].rating = g.banks[k].rating := fun k => by
    rw [checkResult_rating, health_bank]; exact (judge_spec _ _ _).1
  have unchecked : g.check = none → h.check = none ∧ h.lastCheck = g.lastCheck := fun idle => by
    obtain ⟨check, last⟩ := health_check prev sense g
    have idle := check.trans idle
    have same := congrArg Prod.fst (checkResult_of_none sense idle)
    exact ⟨(congrArg Governor.check same).trans idle, (congrArg Governor.lastCheck same).trans last⟩
  have fine := control_bFine c.f fset c.first h
  rw [hff, he, hr, hp, hi] at fine
  have whole : (g.take false fset prev sense c).1 = (h.control c.f fset c.first).command.1 := rfl
  generalize made : h.control c.f fset c.first = q at fine whole
  obtain ⟨bFine, b, -, ff, ePrev, reseed, kp, ki, offset⟩ := checkOffered_fields q.select.1 q.driven
  rw [whole]
  refine ⟨?_, ?_, ?_, ?_, ?_, ?_, ?_, ?_, ?_, fun idle => ?_, fun k => ?_⟩
  · exact (congrArg Int.ofNat bFine).trans fine
  · refine b.trans ?_
    rw [show q.command.1.bFine = q.bFine from bFine, ← made]
    rfl
  · exact ff.trans (by rw [← made]; rfl)
  · exact ePrev.trans (by rw [← made]; rfl)
  · exact reseed.trans (by rw [← made]; rfl)
  · rw [show q.command.1.b = q.b from b, ← hs, show h.s = q.s by rw [← made]; rfl]
    rfl
  · exact kp.trans (by rw [← hp, ← made]; rfl)
  · exact ki.trans (by rw [← hi, ← made]; rfl)
  · exact offset.trans (by rw [← ho, ← made]; rfl)
  · obtain ⟨check, last⟩ := unchecked idle
    have idle : q.check = none := by rw [← made]; exact check
    rw [command_of_idle idle]
    exact ⟨idle, by rw [← last, ← made]; rfl⟩
  · rw [command_rating, ← rating k, ← made]
    rfl

/-! ### The governor stays sound through a completion -/

theorem inRange_of_exceptBanks {g h : Governor} (same : h.exceptBanks = g.exceptBanks) (range : g.inRange) : h.inRange := by
  obtain ⟨hs, hff, he, -, hp, hi, ho⟩ := fields_of_exceptBanks same
  unfold Governor.inRange
  rw [hs, hff, he, hp, hi, ho]
  exact range

section
variable {trip : Bool} {g : Governor} (prev : Vector Bool 8) (sense : BitVec 8)

theorem health_capped (capped : g.capped) : (g.health prev sense).1.capped := by
  by_cases kept : ∀ k : BankNo, g.banks[k].state = .ready → (g.judged prev sense).banks[k].state = .ready
  · rw [health_of_kept kept]
    refine capped_of_sameReady (g := g) rfl rfl rfl (fun k => ?_) capped
    have spec := judge_spec prev[k] (sense.getLsbD k) g.banks[k]
    rw [← judged_bank] at spec
    refine ⟨?_, fun _ => spec.1⟩
    rw [Bool.eq_iff_iff, Bank.isReady_iff, Bank.isReady_iff]
    refine ⟨fun ready => ?_, kept k⟩
    rcases spec.2.2 with same | ⟨-, r, failed⟩
    · rw [← same]; exact ready
    · rw [failed] at ready; cases ready
  · simp only [not_forall] at kept
    obtain ⟨k, was, lost⟩ := kept
    rw [health_of_lost was lost]
    exact reclamp_capped capped.2.1

/-- R28, R29: after stage 0 a bank is in the state it was in, or has failed. -/
theorem health_states (states : g.statesFit) (k : BankNo) :
    let b := (g.health prev sense).1.banks[k]
    (b.state = .checking → g.underCheck = some k) ∧ (g.underCheck = some k → b.state = .checking ∨ ∃ r, b.state = .failed r) ∧
      (b.state = .absent ↔ b.rating = 0) := by
  obtain ⟨checking, absent⟩ := states k
  have spec := judge_spec prev[k] (sense.getLsbD k) g.banks[k]
  rw [← health_bank] at spec
  dsimp only
  obtain ⟨rating, -, same | ⟨present, r, failed⟩⟩ := spec
  · rw [rating, same]
    exact ⟨checking.mp, fun under => .inl (checking.mpr under), absent⟩
  · rw [rating, failed, ← absent]
    exact ⟨fun h => (by cases h), fun _ => .inr ⟨r, rfl⟩, iff_of_false (by simp) present⟩

/-- R35: after the check's result the states fit again. -/
theorem checkResult_states (states : g.statesFit) : ((g.health prev sense).1.checkResult sense).1.statesFit := by
  have after := health_states prev sense states
  have check := (health_check prev sense g).1
  generalize (g.health prev sense).1 = h at after check
  have none_under : (∀ k : BankNo, g.underCheck = some k → h.banks[k].state ≠ .checking) → ∀ k : BankNo,
      h.banks[k].state = .checking ↔ (none : Option BankNo) = some k := fun ended k =>
    iff_of_false (fun checking => ended k ((after k).1 checking) checking) (by simp)
  cases running : h.check with
  | none =>
    rw [checkResult_of_none sense running]
    have idle : g.underCheck = none := by rw [Governor.underCheck, ← check, running]; rfl
    have idle' : h.underCheck = none := by rw [Governor.underCheck, running]; rfl
    intro k
    rw [idle']
    exact ⟨none_under (fun k under => by rw [idle] at under; cases under) k, (after k).2.2⟩
  | some c =>
    obtain ⟨n, w, chosen⟩ := c
    have under : g.underCheck = some n := by rw [Governor.underCheck, ← check, running]; rfl
    have under' : h.underCheck = some n := by rw [Governor.underCheck, running]; rfl
    have only : ∀ k : BankNo, g.underCheck = some k → k = n := fun k h => by
      rw [under] at h; exact (Option.some.inj h).symm
    cases chosen with
    | true =>
      rw [checkResult_of_chosen sense running]
      intro k
      by_cases same : k = n
      · subst same
        rw [endCheck_self]
        have present : h.banks[k].rating ≠ 0 := by
          refine (not_congr (after k).2.2).mp ?_
          rcases (after k).2.1 under with state | ⟨r, state⟩ <;> exact state.trans_ne (by simp)
        exact ⟨iff_of_false (by simp) (by simp [Governor.underCheck, Governor.endCheck]),
          iff_of_false (by simp) present⟩
      · rw [endCheck_ne _ _ _ _ same]
        exact ⟨iff_of_false (fun h => same (only k ((after k).1 h)))
          (by simp [Governor.underCheck, Governor.endCheck]), (after k).2.2⟩
    | false =>
      rcases (after n).2.1 under with checking | ⟨r, failed⟩
      · rw [checkResult_of_checking sense running checking]
        intro k
        rw [under']
        refine ⟨⟨fun h => ?_, fun h => ?_⟩, (after k).2.2⟩
        · rw [← under]; exact (after k).1 h
        · rw [← Option.some.inj h]; exact checking
      · rw [checkResult_of_failed sense running failed]
        intro k
        refine ⟨none_under (fun k under => ?_) k, (after k).2.2⟩
        rw [only k under, failed]
        simp

theorem checkResult_capped (states : g.statesFit) (capped : g.capped) :
    ((g.health prev sense).1.checkResult sense).1.capped := by
  have after := health_states prev sense states
  have check := (health_check prev sense g).1
  have capped := health_capped prev sense capped
  generalize (g.health prev sense).1 = h at after check capped
  unfold Governor.checkResult
  split
  · exact capped
  · next c running =>
    have under : g.underCheck = some c.bank := by rw [Governor.underCheck, ← check, running]; rfl
    split
    · refine capped_of_sameReady (g := h) rfl rfl rfl (fun k => ?_) capped
      dsimp only
      by_cases same : k = c.bank
      · subst same
        have out : h.banks[c.bank].isReady = false := by
          rcases (after c.bank).2.1 under with state | ⟨r, state⟩ <;>
            exact decide_eq_false (state.trans_ne (by simp))
        rw [endCheck_self]
        exact ⟨out.symm, fun _ => rfl⟩
      · rw [endCheck_ne _ _ _ _ same]
        exact ⟨rfl, fun _ => rfl⟩
    · split <;> exact capped

/-- R22, R23: B_fine is limited to what the Ready banks give. -/
theorem control_capped (f fset : Int) (first : Bool) (carry : g.carry ≤ g.carryBound) :
    (g.control f fset first).capped := by
  refine ⟨?_, rfl, carry⟩
  have fine := control_bFine f fset first g
  have same : (g.control f fset first).bCap = g.bCap := rfl
  omega

theorem control_inRange {f fset : Int} (first : Bool) (range : g.inRange) (least : -21000 ≤ f - fset)
    (most : f - fset ≤ 21000) : (g.control f fset first).inRange := by
  obtain ⟨s1, -, -, -, -, p, i, o1, o2⟩ := range
  exact ⟨s1, (by decide : (-16000 : Int) ≤ 0), (by decide : (0 : Int) ≤ 16000), least, most, p, i, o1, o2⟩

/-- R24: what remains of the target is below the least Ready rating. -/
theorem select_carry (g : Governor) : g.select.2 ≤ g.carryBound := by
  cases here : g.rMin with
  | none => rw [select_of_none here]; exact Nat.zero_le _
  | some r =>
    rw [select_of_rMin here, Governor.carryBound, here]
    exact Nat.min_le_right _ _

/-- R16, R24: the selection keeps a governor steady, whatever the outputs were. -/
theorem driven_steady (range : g.inRange) (capped : g.capped) (ratings : ∀ k : BankNo, g.banks[k].rating ≤ 2000)
    (states : g.statesFit) : g.driven.Steady false := by
  have same : ∀ k : BankNo, g.driven.banks[k].isReady = g.banks[k].isReady ∧
      (g.banks[k].isReady = true → g.driven.banks[k].rating = g.banks[k].rating) := fun k => by
    rw [driven_bank]; exact ⟨rfl, fun _ => rfl⟩
  have ready := readyRatings_congr same
  have bCap : g.driven.bCap = g.bCap := congrArg List.sum ready
  have bound : g.driven.carryBound = g.carryBound := by simp only [Governor.carryBound, Governor.rMin, ready]
  refine ⟨range, ⟨by rw [bCap]; exact capped.1, capped.2.1, by rw [bound]; exact select_carry g⟩, fun k => ?_,
    (absurd · Bool.false_ne_true), fun k => ?_, fun k => ?_⟩
  · rw [driven_bank]; exact ratings k
  · rw [driven_bank]; exact states k
  · rw [driven_bank]
    refine ⟨fun on => ?_, (absurd · Bool.false_ne_true)⟩
    exact (mem_offered g k).mp ((select_sublist g).subset (of_decide_eq_true on))

theorem checkOffered_steady (chosen : List BankNo) (steady : g.Steady false) : (g.checkOffered chosen).1.Steady false := by
  have still : ∀ c d : CheckRecord, g.check = some c → c.bank = d.bank →
      { g with check := some d }.Steady false := fun c d running bank => by
    refine ⟨steady.range, steady.capped, steady.ratings, (absurd · Bool.false_ne_true), fun k => ?_, steady.outputs⟩
    have states := steady.states k
    rw [Governor.underCheck, running, Option.map_some, bank] at states
    exact states
  rcases checkOffered_cases chosen g with ⟨-, h⟩ | ⟨c, running, ⟨-, h⟩ | ⟨-, -, h⟩ | ⟨-, -, h⟩⟩ <;> rw [h]
  · exact steady
  · exact still c _ running rfl
  · exact endCheck_steady _ steady (by rw [Governor.underCheck, running]; rfl)
  · exact still c _ running rfl

/-- R25: the store holds at most what sixteen windows of full ballast bring. -/
theorem command_steady (range : g.inRange) (capped : g.capped) (ratings : ∀ k : BankNo, g.banks[k].rating ≤ 2000)
    (states : g.statesFit) : g.command.1.Steady false := by
  obtain ⟨⟨-, bounds⟩, cap, rating, idle, states', outputs⟩ :=
    checkOffered_steady g.select.1 (driven_steady range capped ratings states)
  have ballast : g.b ≤ 16000 := by
    have := bCap_le ratings
    have := capped.1
    have := capped.2.1
    omega
  have store : g.s + g.b - g.s / 16 ≤ 256015 := by
    have := range.1
    omega
  rw [command_fst]
  exact ⟨⟨store, bounds⟩, cap, rating, idle, states', outputs⟩

/-- R17: full ballast on exactly the Ready banks. -/
theorem fullBallast_steady (range : g.inRange) (carry : g.carry ≤ g.carryBound)
    (ratings : ∀ k : BankNo, g.banks[k].rating ≤ 2000) (idle : g.check = none) (states : g.statesFit) :
    g.fullBallast.Steady trip := by
  have bank : ∀ k : BankNo, g.fullBallast.banks[k] = { g.banks[k] with on := g.banks[k].isReady } := fun k => by
    simp [Governor.fullBallast]
  have same : ∀ k : BankNo, g.fullBallast.banks[k].isReady = g.banks[k].isReady ∧
      (g.banks[k].isReady = true → g.fullBallast.banks[k].rating = g.banks[k].rating) := fun k => by
    rw [bank]; exact ⟨rfl, fun _ => rfl⟩
  have ready := readyRatings_congr same
  have bCap : g.fullBallast.bCap = g.bCap := congrArg List.sum ready
  have bound : g.fullBallast.carryBound = g.carryBound := by simp only [Governor.carryBound, Governor.rMin, ready]
  obtain ⟨s1, -, -, rest⟩ := range
  refine ⟨⟨s1, (by decide : (-16000 : Int) ≤ 0), (by decide : (0 : Int) ≤ 16000), rest⟩,
    ⟨by rw [bCap]; exact le_refl (1024 * g.bCap), ?_, by rw [bound]; exact carry⟩,
    fun k => ?_, fun _ => idle, fun k => ?_, fun k => ?_⟩
  · show g.bCap = 1024 * g.bCap / 1024
    omega
  · rw [bank]; exact ratings k
  · rw [bank]; exact states k
  · rw [bank]
    exact ⟨fun on => .inl ((Bank.isReady_iff _).mp on), fun _ ready => (Bank.isReady_iff _).mpr ready⟩

theorem health_ratings (ratings : ∀ k : BankNo, g.banks[k].rating ≤ 2000) (k : BankNo) :
    (g.health prev sense).1.banks[k].rating ≤ 2000 := by
  rw [health_bank, (judge_spec _ _ _).1]
  exact ratings k

theorem take_steady {fset : Int} (c : Completion) (least : -21000 ≤ (c.f : Int) - fset) (most : (c.f : Int) - fset ≤ 21000)
    (steady : g.Steady trip) : (g.take trip fset prev sense c).1.Steady trip := by
  have range := inRange_of_exceptBanks (health_exceptBanks prev sense g) steady.range
  cases trip with
  | true =>
    have idle := (health_check prev sense g).1.trans (steady.idle rfl)
    have states := checkResult_states prev sense steady.states
    rw [checkResult_of_none sense idle] at states
    exact fullBallast_steady range (health_capped prev sense steady.capped).2.2 (health_ratings prev sense steady.ratings)
      idle states
  | false =>
    have states := checkResult_states prev sense steady.states
    have capped := checkResult_capped prev sense steady.states steady.capped
    have range := inRange_of_exceptBanks (checkResult_exceptBanks sense _) range
    have ratings : ∀ k : BankNo, ((g.health prev sense).1.checkResult sense).1.banks[k].rating ≤ 2000 := fun k => by
      rw [checkResult_rating]; exact health_ratings prev sense steady.ratings k
    exact command_steady (control_inRange c.first range least most) (control_capped _ _ _ capped.2.2) ratings states

theorem tripOnset_steady (steady : g.Steady trip) : g.tripOnset.1.Steady true := by
  unfold Governor.tripOnset
  split
  · next c running =>
    have ended := endCheck_steady .notExercised steady (k := c.bank) (by rw [Governor.underCheck, running]; rfl)
    exact fullBallast_steady ended.range ended.capped.2.2 ended.ratings rfl ended.states
  · next idle => exact fullBallast_steady steady.range steady.capped.2.2 steady.ratings idle steady.states

theorem post_steady (x : Int) (steady : g.Steady trip) : (g.post x).Steady trip := by
  obtain ⟨⟨s1, -, -, rest⟩, capped, ratings, idle, states, outputs⟩ := steady
  have bounds := clampInt_bounds (-16000) 16000 (g.ff + x) (by decide)
  exact ⟨⟨s1, bounds.1, bounds.2, rest⟩, capped, ratings, idle, states, outputs⟩

theorem Posts.steady {h : Governor} (posts : Posts g h) (steady : g.Steady trip) : h.Steady trip := by
  rcases posts with rfl | ⟨x, rfl⟩
  · exact steady
  · exact post_steady x steady

end

/-! ### Every step (O51) -/

/-- The governor and the trip are outside what a blanking changes. -/
theorem steady_of_blank (blank : State → State) (gov : ∀ s, (blank s).gov = s.gov) (prot : ∀ s, (blank s).prot = s.prot)
    {s u : State} (h : blank u = blank s) (steady : s.gov.Steady s.prot.trip) : u.gov.Steady u.prot.trip := by
  rwa [block_of_blank State.gov blank gov h, block_of_blank State.prot blank prot h]

theorem fset_range {s : State} (range : s.gov.inRange) : 49000 ≤ s.fset ∧ s.fset ≤ 61000 := by
  obtain ⟨-, -, -, -, -, -, -, o1, o2⟩ := range
  unfold State.fset State.nominal
  split <;> omega

theorem governorTake_steady {s : State} (prev : Vector Bool 8) (sense : BitVec 8) (c : Completion) (least : 40000 ≤ c.f)
    (most : c.f ≤ 70000) (steady : s.gov.Steady s.prot.trip) :
    (s.governorTake prev sense c).gov.Steady (s.governorTake prev sense c).prot.trip := by
  have fset := fset_range steady.range
  refine steady_of_blank State.exceptTable (by rintro ⟨⟩; rfl) (by rintro ⟨⟩; rfl) (raiseAll_exceptTable _ _) ?_
  exact take_steady prev sense c (by omega) (by omega) steady

theorem countUf_trip (under : Bool) (s : State) : (s.countUf under).prot.trip = s.prot.trip := by
  cases trip : s.prot.trip with
  | true => rw [countUf_of_trip under s trip, trip]
  | false =>
    rw [countUf_eq under s trip]
    dsimp only
    generalize (if under = true then min 3 (s.prot.uf + 1) else 0) = n
    split
    · obtain ⟨o, prot⟩ := shedStep_prot { s with prot := { s.prot with uf := n } }
      rw [prot]
      exact trip
    · exact trip

theorem protectionTake_steady {s : State} (c : Completion) (steady : s.gov.Steady s.prot.trip) :
    (s.protectionTake c).gov.Steady (s.protectionTake c).prot.trip := by
  have trip : ∀ good : Bool, (s.prot.settle good).trip = s.prot.trip := fun good => by
    unfold Protection.settle
    split
    · split <;> rfl
    · rfl
  unfold State.protectionTake
  dsimp only
  split
  · refine steady_of_blank State.exceptTable (by rintro ⟨⟩; rfl) (by rintro ⟨⟩; rfl) (State.raise_exceptTable _ _) ?_
    refine steady_of_blank State.exceptTable (by rintro ⟨⟩; rfl) (by rintro ⟨⟩; rfl) (raiseAll_exceptTable _ _) ?_
    exact tripOnset_steady steady
  · rw [countUf_trip, block_of_blank State.gov State.shedBlocks (by rintro ⟨⟩; rfl) (countUf_shedBlocks _ _), trip]
    exact steady

theorem complete_steady {s : State} (sense : BitVec 8) (c : Completion) (least : 40000 ≤ c.f) (most : c.f ≤ 70000)
    (steady : s.gov.Steady s.prot.trip) : (s.complete sense c).gov.Steady (s.complete sense c).prot.trip :=
  complete_keeps (fun s => s.gov.Steady s.prot.trip) sense c (fun _ _ h => h)
    (fun _ prev h => governorTake_steady prev sense c least most h)
    (fun t h => steady_of_blank State.exceptGate (by rintro ⟨⟩; rfl) (by rintro ⟨⟩; rfl) (positionerTake_exceptGate t) h)
    (fun _ h => h) (fun _ h => protectionTake_steady c h) steady

theorem unreleased_gov (s : State) : Posts s.gov s.unreleased.gov := .inr ⟨_, rfl⟩

theorem debounceOver_gov (s : State) : Posts s.gov s.debounceOver.gov := by
  unfold State.debounceOver
  split
  · exact .inl rfl
  · dsimp only
    split_ifs
    · exact .inl rfl
    · unfold State.engageEdge
      dsimp only
      split
      · exact .inr ⟨_, rfl⟩
      · exact .inr ⟨_, rfl⟩
      · exact .inr ⟨_, rfl⟩
      · exact .inr ⟨_, rfl⟩
      all_goals exact .inl rfl
    · unfold State.disengageEdge
      dsimp only
      split <;> exact .inr ⟨_, rfl⟩

theorem waitingOver_gov (s : State) : s.waitingOver.gov = s.gov := by
  unfold State.waitingOver
  split <;> rfl

theorem preparingOver_gov (s : State) : s.preparingOver.gov = s.gov := by
  unfold State.preparingOver
  split <;> rfl

theorem idleOver_gov (s : State) : s.idleOver.gov = s.gov := by
  unfold State.idleOver
  split <;> rfl

theorem SettledPart.steady {s u : State} (part : SettledPart s u) (steady : s.gov.Steady s.prot.trip) :
    u.gov.Steady u.prot.trip := by
  have saw : u.sawBlocks = s.sawBlocks → Posts s.gov u.gov → u.gov.Steady u.prot.trip := fun h posts => by
    rw [block_of_blank State.prot State.sawBlocks (by rintro ⟨⟩; rfl) h]
    exact posts.steady steady
  have shed : u.shedBlocks = s.shedBlocks → u.prot.trip = s.prot.trip → u.gov.Steady u.prot.trip := fun h trip => by
    rwa [trip, block_of_blank State.gov State.shedBlocks (by rintro ⟨⟩; rfl) h]
  cases part with
  | line part =>
    obtain ⟨g, posts, eq⟩ := part.lineBlocks
    rw [block_of_blank State.gov State.lineBlocks (by rintro ⟨⟩; rfl) eq,
      block_of_blank State.prot State.lineBlocks (by rintro ⟨⟩; rfl) eq]
    exact posts.steady steady
  | complete sense c least most => exact complete_steady sense c least most steady
  | slowPeriod => exact shed (slowPeriod_shedBlocks s) (countUf_trip true _)
  | restoreTick =>
    exact steady_of_blank (fun t => t.exceptTable.exceptSaw.exceptAccount) (by rintro ⟨⟩; rfl) (by rintro ⟨⟩; rfl)
      (restoreTick_exceptAccount s) steady
  | debounceOver => exact saw (debounceOver_sawBlocks s) (debounceOver_gov s)
  | waitingOver => exact saw (waitingOver_sawBlocks s) (.inl (waitingOver_gov s))
  | preparingOver => exact saw (preparingOver_sawBlocks s) (.inl (preparingOver_gov s))
  | idleOver => exact saw (idleOver_sawBlocks s) (.inl (idleOver_gov s))
  | sawGrant d => exact steady
  | sawStop => exact steady
  | shedStep =>
    obtain ⟨o, prot⟩ := shedStep_prot s
    exact shed (shedStep_shedBlocks s) (by rw [prot])
  | supplyReset => exact steady

/-- Outside a trip nothing is asked of a Ready bank's output, nor of the check. -/
theorem Governor.Steady.cleared {trip : Bool} {g : Governor} (steady : g.Steady trip) : g.Steady false := by
  obtain ⟨range, capped, ratings, -, states, outputs⟩ := steady
  exact ⟨range, capped, ratings, (absurd · Bool.false_ne_true), states,
    fun k => ⟨(outputs k).1, (absurd · Bool.false_ne_true)⟩⟩

theorem BarePart.steady {s u : State} (part : BarePart s u) (steady : s.gov.Steady s.prot.trip) :
    u.gov.Steady u.prot.trip := by
  cases part with
  | line part =>
    exact steady_of_blank State.lineBlocks (by rintro ⟨⟩; rfl) (by rintro ⟨⟩; rfl) part.lineBlocks steady
  | governor part =>
    rw [block_of_blank State.prot (fun t => t.exceptTable.exceptGov) (by rintro ⟨⟩; rfl) part.exceptGov]
    exact part.steady steady
  | gate part =>
    exact steady_of_blank (fun t => t.exceptTable.exceptGate) (by rintro ⟨⟩; rfl) (by rintro ⟨⟩; rfl) part.exceptGate steady
  | silence =>
    unfold State.silenceOver
    split <;> exact steady
  | stuck =>
    unfold State.stuckOver
    split <;> exact steady
  | settledOver =>
    unfold Protection.settledOver
    split <;> exact steady
  | tripClear =>
    obtain ⟨range, capped, ratings, idle, states, outputs⟩ := steady.cleared
    exact ⟨range, capped, ratings, idle, states, outputs⟩
  | protSet fset tripOffset ufOffset interval =>
    obtain ⟨⟨s1, f1, f2, e1, e2, p, i, -, -⟩, capped, ratings, idle, states, outputs⟩ := steady
    have bounds := clampInt_bounds (-1000) 1000 ((fset.toNat : Int) + 40000 - s.nominal) (by decide)
    exact ⟨⟨s1, f1, f2, e1, e2, p, i, bounds.1, bounds.2⟩, capped, ratings, idle, states, outputs⟩
  | _ => exact steady

/-! #### The resets -/

theorem BarePart.trip {s u : State} (awake : s.awake) (part : BarePart s u) : u.resetting.isSome = true → u.prot.trip = false :=
  fun h => by rw [part.resetting, awake] at h; cases h

theorem resetBanks_bank (ratings : Vector Nat 8) (g : Governor) (k : BankNo) :
    (g.resetBanks ratings)[k] = Bank.atReset ratings[k] g.banks[k].on := by
  simp [Governor.resetBanks]

/-- R39: a bank after reset, its output as it was: an Absent bank was off. -/
theorem Bank.atReset_held (rating : Nat) (on : Bool) (off : rating = 0 → on = false) :
    (Bank.atReset rating on).outputFits false := by
  unfold Bank.outputFits Bank.atReset
  dsimp only
  split <;> simp_all

/-- R39: the governor of a reset in progress, its outputs held by the latch. -/
theorem atReset_steady {g : Governor} {ratings : Vector Nat 8} {offset : Int} (low : -1000 ≤ offset) (high : offset ≤ 1000)
    (small : ∀ k : BankNo, ratings[k] ≤ 2000) (off : ∀ k : BankNo, ratings[k] = 0 → g.banks[k].on = false) :
    (Governor.atReset (g.resetBanks ratings) offset).Steady false := by
  have range : (Governor.atReset (g.resetBanks ratings) offset).inRange := by
    refine ⟨?_, ?_, ?_, ?_, ?_, ?_, ?_, low, high⟩ <;> simp [Governor.atReset]
  have capped : (Governor.atReset (g.resetBanks ratings) offset).capped := by
    refine ⟨?_, ?_, ?_⟩ <;> simp [Governor.atReset]
  have bank := resetBanks_bank ratings g
  refine ⟨range, capped, fun k => ?_, (absurd · Bool.false_ne_true), fun k => ?_, fun k => ?_⟩
  · show (g.resetBanks ratings)[k].rating ≤ 2000
    rw [bank]; exact small k
  · show ((g.resetBanks ratings)[k].state = _ ↔ _) ∧ ((g.resetBanks ratings)[k].state = _ ↔ (g.resetBanks ratings)[k].rating = 0)
    have fits := Bank.atReset_fits ratings[k] g.banks[k].on
    rw [bank]
    exact ⟨iff_of_false fits.2 (by simp [Governor.underCheck, Governor.atReset]), fits.1⟩
  · show (g.resetBanks ratings)[k].outputFits false
    rw [bank]; exact Bank.atReset_held _ _ (off k)

theorem allOff_bank (g : Governor) (k : BankNo) : g.allOff.banks[k] = { g.banks[k] with on := false } := by
  simp [Governor.allOff]

/-- R16, R39: the strobe at the end of a reset. -/
theorem allOff_steady {g : Governor} (steady : g.Steady false) : g.allOff.Steady false := by
  obtain ⟨range, capped, ratings, idle, states, outputs⟩ := steady
  refine ⟨range, ?_, fun k => ?_, idle, fun k => ?_, fun k => ?_⟩
  · refine capped_of_sameReady (g := g) rfl rfl rfl (fun k => ?_) capped
    rw [allOff_bank]; exact ⟨rfl, fun _ => rfl⟩
  · rw [allOff_bank]; exact ratings k
  · rw [allOff_bank]; exact states k
  · rw [allOff_bank]; exact ⟨(absurd · Bool.false_ne_true), (absurd · Bool.false_ne_true)⟩

theorem defaultRatings_range (k : BankNo) : Config.defaultRatings[k] ≤ 2000 ∧ Config.defaultRatings[k] ≠ 0 := by
  revert k; decide

theorem endReset_gov (s : State) (k : ResetKind) (nomsel shut full engaged : Bool) :
    (s.endReset k nomsel shut full engaged).gov = s.gov.allOff ∧
      (s.endReset k nomsel shut full engaged).prot = s.prot := by
  unfold State.endReset State.raiseIf
  cases shut && full <;> exact ⟨rfl, rfl⟩

/-- What O51 asks, in the form that each part keeps. -/
def State.governorSteady (s : State) : Prop :=
  s.gov.Steady s.prot.trip ∧ (s.resetting.isSome = true → s.prot.trip = false)

theorem pinReset_steady {s : State} (steady : s.gov.Steady s.prot.trip) : s.pinReset.gov.Steady false := by
  have rating : ∀ k : BankNo, s.gov.ratings[k] = s.gov.banks[k].rating := fun k => by simp [Governor.ratings]
  obtain ⟨⟨-, -, -, -, -, -, -, o1, o2⟩, -, ratings, -, states, -⟩ := id steady
  refine atReset_steady o1 o2 (fun k => by rw [rating]; exact ratings k) fun k zero => ?_
  rw [rating, ← (states k).2] at zero
  exact steady.off (zero.trans_ne (by simp)) (zero.trans_ne (by simp))

theorem governorSteady_kept : Kept State.governorSteady where
  queue _ _ _ _ _ sound := sound
  count _ _ sound := sound
  bare _ _ awake part sound := ⟨part.steady sound.1, part.trip awake⟩
  settled s u awake part sound := by
    refine ⟨?_, fun h => ?_⟩
    · rw [settle_prot, block_of_blank State.gov State.ownerBlocks (by rintro ⟨⟩; rfl) (settle_ownerBlocks s u)]
      exact part.steady sound.1
    · rw [settle_resetting, part.resetting, awake] at h
      cases h
  powerOn s _ := ⟨atReset_steady (by decide) (by decide) (fun k => (defaultRatings_range k).1)
    fun k zero => absurd zero (defaultRatings_range k).2, fun _ => rfl⟩
  pin s sound := ⟨pinReset_steady sound.1, fun _ => rfl⟩
  ended s k nomsel shut full engaged reset := fun ⟨steady, calm⟩ => by
    have calm := calm (by rw [reset]; rfl)
    obtain ⟨gov, prot⟩ := endReset_gov s k nomsel shut full engaged
    rw [State.governorSteady, gov, prot, calm]
    rw [calm] at steady
    exact ⟨allOff_steady steady, fun _ => rfl⟩

/-- Settles O51. -/
theorem governorStaysSound : Obligations.GovernorStaysSound := by
  intro s t sound h
  rw [governorSound_iff] at sound ⊢
  exact governorSteady_kept.step s t sound h

end Sys2Proof.Machine

/-! ## Proofs: the guide vane positioner (03_guide_vane_positioning.md) -/

namespace Sys2Proof.Machine

/-! ### The drive decision (R42 to R46) -/

section
variable {g : Gate}

theorem decide_of_stopped (stopped : g.drive = .stopped) : g.decide = g.decideStopped := by rw [Gate.decide, stopped]

theorem decide_of_opening (opening : g.drive = .opening) : g.decide = if g.target ≤ g.p then g.rest else g := by
  rw [Gate.decide, opening]

theorem decide_of_closing (closing : g.drive = .closing) : g.decide = if g.p ≤ g.target then g.rest else g := by
  rw [Gate.decide, closing]

theorem decide_of_pausing (pausing : g.drive = .pausing) : g.decide = g := by rw [Gate.decide, pausing]

theorem decide_of_jammed {c : JamCause} (jammed : g.drive = .jammed c) : g.decide = g := by rw [Gate.decide, jammed]

/-- R44: the decision in Stopped, by where the count stands. -/
theorem decideStopped_of_open (more : g.p + 2 < g.target) :
    g.decideStopped =
      if g.full then
        if (g.fixAt 1000).wantsClose && !g.shut then (g.fixAt 1000).startRun .closing else g.fixAt 1000
      else g.startRun .opening := by
  rw [Gate.decideStopped, if_pos (by simpa [Gate.wantsOpen] using more)]
  rfl

theorem decideStopped_of_close (less : g.target + 2 < g.p) :
    g.decideStopped =
      if g.shut then
        if (g.fixAt 0).wantsOpen && !g.full then (g.fixAt 0).startRun .opening else g.fixAt 0
      else g.startRun .closing := by
  rw [Gate.decideStopped, if_neg (by simp [Gate.wantsOpen]; omega), if_pos (by simpa [Gate.wantsClose] using less)]
  rfl

theorem decideStopped_of_near (low : g.p ≤ g.target + 2) (high : g.target ≤ g.p + 2) : g.decideStopped = g := by
  rw [Gate.decideStopped, if_neg (by simpa [Gate.wantsOpen] using high), if_neg (by simpa [Gate.wantsClose] using low)]

end

/-- Settles O14. -/
theorem driveDecisionFollowsTheStopBand : Obligations.DriveDecisionFollowsTheStopBand := by
  intro g
  refine ⟨fun stopped more free => ?_, fun stopped less free => ?_, fun stopped low high => ?_,
    fun stopped less shut near => ?_, fun stopped more full near most => ?_, decide_of_opening, decide_of_closing,
    decide_of_pausing, fun c => decide_of_jammed⟩
  · rw [decide_of_stopped stopped, decideStopped_of_open more, if_neg (by simp [free])]
    rfl
  · rw [decide_of_stopped stopped, decideStopped_of_close less, if_neg (by simp [free])]
    rfl
  · rw [decide_of_stopped stopped, decideStopped_of_near low high]
  · have fixed : (g.fixAt 0).wantsOpen = false := decide_eq_false (by show ¬ 0 + 2 < g.target; omega)
    rw [decide_of_stopped stopped, decideStopped_of_close less, if_pos shut, fixed]
    rfl
  · have fixed : (g.fixAt 1000).wantsClose = false := decide_eq_false (by show ¬ g.target + 2 < 1000; omega)
    rw [decide_of_stopped stopped, decideStopped_of_open more, if_pos full, fixed]
    rfl

/-! ### Pulses and the drive's timers (R41, R46, R47) -/

theorem driving_iff (g : Gate) : g.driving = true ↔ g.drive = .opening ∨ g.drive = .closing := by
  unfold Gate.driving
  split <;> simp_all

theorem isJammed_iff (g : Gate) : g.isJammed = true ↔ ∃ c, g.drive = .jammed c := by
  unfold Gate.isJammed
  split <;> simp_all

/-- R41: a pulse of a run before the fourth. -/
theorem pulse_of_early {g : Gate} (run : g.drive = .opening ∨ g.drive = .closing) (early : g.prescaler < 3) :
    g.pulse = { g with jam := some 4000000, prescaler := g.prescaler + 1 } := by
  have short : ¬ 3 ≤ g.prescaler := Nat.not_le.mpr early
  rcases run with drive | drive <;> simp only [Gate.pulse, drive, if_neg short] <;> rfl

/-- R41: the fourth pulse of a run, short of the end of the count. -/
theorem pulse_of_opening {g : Gate} (drive : g.drive = .opening) (fourth : g.prescaler = 3) (below : g.p < 1000) :
    g.pulse = Gate.decide { g with jam := some 4000000, prescaler := 0, p := g.p + 1 } := by
  have next : min (g.p + 1) 1000 = g.p + 1 := by omega
  simp only [Gate.pulse, drive, fourth, le_refl, if_true, next, Nat.succ_ne_self, if_false, Config.jamTime]

theorem pulse_of_closing {g : Gate} (drive : g.drive = .closing) (fourth : g.prescaler = 3) (above : 0 < g.p) :
    g.pulse = Gate.decide { g with jam := some 4000000, prescaler := 0, p := g.p - 1 } := by
  have next : g.p - 1 ≠ g.p := by omega
  simp only [Gate.pulse, drive, fourth, le_refl, if_true, next, if_false, Config.jamTime]

/-- R41: the fourth pulse at the end of the count. -/
theorem pulse_of_end {g : Gate} (fourth : g.prescaler = 3)
    (ends : g.drive = .opening ∧ g.p = 1000 ∨ g.drive = .closing ∧ g.p = 0) :
    g.pulse = { g with jam := some 4000000, prescaler := 0 } := by
  obtain ⟨p, prescaler, calibrated, target, drive, pause, jam, trim, float, deadband, shut, full⟩ := g
  rcases ends with ⟨rfl, rfl⟩ | ⟨rfl, rfl⟩ <;> subst fourth <;> rfl

theorem pulse_of_idle {g : Gate} (idle : g.driving = false) : g.pulse = g := by
  unfold Gate.pulse
  cases drive : g.drive <;> simp_all [Gate.driving]

/-- Settles O15. -/
theorem gatePulsesAndDriveTimers : Obligations.GatePulsesAndDriveTimers := by
  intro s awake
  have row : exec .gatePulse s = .next { s with gate := s.gate.pulse } :=
    live_of_awake (fun s => { s with gate := s.gate.pulse }) s awake
  rw [row]
  refine ⟨fun run early => ?_, fun drive fourth below => ?_, fun drive fourth above => ?_, fun _ fourth ends => ?_,
    fun idle => ?_, fun pausing fresh => ?_, fun driving fresh => ?_⟩
  · rw [pulse_of_early run early]
  · rw [pulse_of_opening drive fourth below]
  · rw [pulse_of_closing drive fourth above]
  · rw [pulse_of_end fourth ends]
  · rw [pulse_of_idle idle]
  · have row : exec .pauseTimerExpiry s = .next { s with gate := s.gate.pauseOver } :=
      expiry_of_fresh .pauseTimerExpiry (fun s => { s with gate := s.gate.pauseOver }) s awake fresh
    rw [row, Gate.pauseOver, pausing]
  · have row : exec .jamTimerExpiry s = .next s.jamExpiry := expiry_of_fresh _ _ s awake fresh
    rw [row, State.jamExpiry, if_pos driving]
    rfl

/-! ### End switches (R42, R43) -/

/-- R42: the other switch inactive, an activation fixes the count. -/
theorem endSwitch_of_activation {s : State} {sw : EndSwitch} (shut : s.gate.shut = false) (full : s.gate.full = false) :
    s.endSwitch sw true = { s with gate := (s.gate.setLevel sw true).activate sw } := by
  cases sw <;> simp [State.endSwitch, Gate.level, Gate.setLevel, shut, full]

theorem activate_shut {g : Gate} (drive : g.drive ≠ .closing) : g.activate .shut = (g.fixAt 0).decide := by
  unfold Gate.activate
  dsimp only
  split
  · next closing => exact absurd closing drive
  · next opposite _ => exact absurd opposite (by decide)
  · rfl

theorem activate_full {g : Gate} (drive : g.drive ≠ .opening) : g.activate .full = (g.fixAt 1000).decide := by
  unfold Gate.activate
  dsimp only
  split
  · next opposite _ => exact absurd opposite (by decide)
  · next opening => exact absurd opening drive
  · rfl

theorem activate_shut_of_closing {g : Gate} (drive : g.drive = .closing) : g.activate .shut = (g.fixAt 0).rest := by
  simp only [Gate.activate, endPosition, Gate.fixAt, drive]

theorem activate_full_of_opening {g : Gate} (drive : g.drive = .opening) : g.activate .full = (g.fixAt 1000).rest := by
  simp only [Gate.activate, endPosition, Gate.fixAt, drive]

/-- Settles O16. -/
theorem endSwitchesFixTheCount : Obligations.EndSwitchesFixTheCount := by
  intro s awake
  have row : ∀ sw active, exec (.endSwitchActivation sw active) s = .next (s.endSwitch sw active) := fun sw active =>
    live_of_awake _ s awake
  simp only [row]
  refine ⟨fun shut full drive => ?_, fun shut full drive => ?_, fun shut full drive => ?_, fun shut full drive => ?_,
    fun shut full => ?_, rfl, rfl⟩
  · rw [endSwitch_of_activation shut full, activate_shut (g := s.gate.setLevel .shut true) drive]
    rfl
  · rw [endSwitch_of_activation shut full, activate_shut_of_closing (g := s.gate.setLevel .shut true) drive]
    rfl
  · rw [endSwitch_of_activation shut full, activate_full (g := s.gate.setLevel .full true) drive]
    rfl
  · rw [endSwitch_of_activation shut full, activate_full_of_opening (g := s.gate.setLevel .full true) drive]
    rfl
  · simp [State.endSwitch, Gate.level, Gate.setLevel, shut, full, Gate.enterJam, State.raise, Attn.bit]

/-! ### The gate commands (R48, R52 to R54) -/

section
variable {s : State}

theorem exec_gateRetry (taken : s.accepts) (jammed : s.gate.isJammed = true)
    (free : s.gate.shut = false ∨ s.gate.full = false) :
    exec .gateRetry s = .next (State.answer 0x23 100 (.plain .done) { s with gate := s.gate.rest }) := by
  refine (exec_of_command (i := .gateRetry) taken (show exec _ s = execGateRetry s from rfl)).trans ?_
  have free : (s.gate.shut && s.gate.full) = false := by rcases free with h | h <;> simp [h]
  simp [jammed, free, promptBound]

theorem exec_gateSet (v : Half) (taken : s.accepts) :
    exec (.gateSet v) s = .next (
      if 1000 < v.toNat then State.answer 0x21 100 (.plain .range) s
      else if s.prot.trip = true ∨ s.gate.isJammed = true then State.answer 0x21 100 (.plain .state) s
      else State.answer 0x21 100 (.plain .done) { s with gate := s.gate.setTarget (min v.toNat s.water.ceiling) }) := by
  refine (exec_of_command (i := .gateSet v) taken (show exec _ s = execGateSet v s from rfl)).trans ?_
  by_cases large : 1000 < v.toNat
  · simp [large, promptBound]
  · cases s.prot.trip <;> cases s.gate.isJammed <;> simp [large, promptBound]

end

/-- Settles O17. -/
theorem gateCommandsSetTheGate : Obligations.GateCommandsSetTheGate := by
  intro v w s taken
  refine ⟨exec_gateRetry taken, fun small free run => ?_, fun large => ?_, fun small busy => ?_,
    fun small idle shut full => ?_, ?_⟩
  · rw [exec_gateSet v taken, if_neg (Nat.not_lt.mpr small), if_neg (by simp [free, run])]
    rfl
  · rw [exec_gateSet v taken, if_pos large]
  · rw [exec_gateSet v taken, if_neg (Nat.not_lt.mpr small), if_pos busy]
  · refine (exec_of_command (i := .gateCalibrate v) taken (show exec _ s = execGateCalibrate v s from rfl)).trans ?_
    have free : (s.gate.shut || s.gate.full) = false := by simp [shut, full]
    simp only [if_neg (Nat.not_lt.mpr small), idle, free]
    rfl
  · exact exec_of_command (i := .gateTrimSet v w) taken (show exec _ s = execGateTrimSet v w s from rfl)

/-! ### The trim decision (R49) -/

theorem inFloat_iff (w : Saw) : w.inFloat = true ↔ w.state = .preparing ∨ w.state = .released ∨ w.state = .cutting := by
  unfold Saw.inFloat
  split <;> simp_all

/-- R49: a trim decision that is taken. -/
theorem trimDecision_of_free {s : State} (free : s.prot.trip = false) (run : s.gate.isJammed = false) :
    s.trimDecision = if s.trimTarget = s.gate.target then s else { s with gate := s.gate.setTarget s.trimTarget } := by
  rw [State.trimDecision, free, run]
  rfl

theorem trimTarget_of_surplus {s : State} (surplus : s.floatTarget + s.gate.deadband < s.gov.bs) :
    s.trimTarget = s.gate.target - 5 := by rw [State.trimTarget, if_pos surplus]

theorem trimTarget_of_deficit {s : State} (deficit : s.gov.bs + s.gate.deadband < s.floatTarget) :
    s.trimTarget = min s.water.ceiling (s.gate.target + 5) := by
  rw [State.trimTarget, if_neg (by omega), if_pos deficit]

theorem trimTarget_of_near {s : State} (low : s.gov.bs ≤ s.floatTarget + s.gate.deadband)
    (high : s.floatTarget ≤ s.gov.bs + s.gate.deadband) : s.trimTarget = s.gate.target := by
  rw [State.trimTarget, if_neg (by omega), if_neg (by omega)]

/-- Settles O18. -/
theorem trimMovesTheTarget : Obligations.TrimMovesTheTarget := by
  intro s awake d f
  have float : f = s.floatTarget := by
    show s.gate.float + d = s.gate.float + _
    simp only [d, inFloat_iff]
  have row : exec .trimDecision s = .next s.trimDecision := live_of_awake _ s awake
  rw [row, float]
  refine ⟨fun held => ?_, fun free run => ?_⟩
  · rw [State.trimDecision, if_pos (by simpa using held)]
  · rw [trimDecision_of_free free run]
    refine ⟨fun surplus some => ?_, fun surplus none => ?_, fun deficit below => ?_, fun deficit top => ?_,
      fun low high => ?_⟩
    · rw [trimTarget_of_surplus surplus, if_neg (by omega)]
      rfl
    · rw [trimTarget_of_surplus surplus, if_pos (by omega)]
    · rw [trimTarget_of_deficit deficit, if_neg (by omega)]
      rfl
    · rw [trimTarget_of_deficit deficit, if_pos (by omega)]
    · rw [trimTarget_of_near low high, if_pos rfl]

/-! ### The gate stays sound (R40 to R51) -/

/-- What `State.gateSound` says of the gate alone. -/
def Gate.sound (g : Gate) : Prop :=
  g.p ≤ 1000 ∧ g.prescaler ≤ 3 ∧ g.trim ≤ 15 ∧ 10 ≤ g.deadband ∧ g.deadband ≤ 500 ∧ g.jam.isSome = g.driving ∧
    g.pause.isSome = Decidable.decide (g.drive = .pausing)

/-- R40, R50, R51: g_t within a ceiling, and 0 in a trip. -/
def Gate.heldTo (ceiling : Nat) (trip : Bool) (g : Gate) : Prop := g.target ≤ ceiling ∧ (trip = true → g.target = 0)

theorem gateSound_iff (s : State) : s.gateSound ↔
    (s.gate.sound ∧ s.gate.heldTo s.water.ceiling s.prot.trip) ∧ (s.resetting.isSome = true → s.prot.trip = false) := by
  unfold State.gateSound Gate.sound Gate.heldTo
  constructor
  · rintro ⟨p, pre, trim, d1, d2, ceiling, trip, jam, pause, reset⟩
    exact ⟨⟨⟨p, pre, trim, d1, d2, jam, pause⟩, ceiling, trip⟩, reset⟩
  · rintro ⟨⟨⟨p, pre, trim, d1, d2, jam, pause⟩, ceiling, trip⟩, reset⟩
    exact ⟨p, pre, trim, d1, d2, ceiling, trip, jam, pause, reset⟩

section
variable {g : Gate}

theorem rest_sound (sound : g.sound) : g.rest.sound := by
  obtain ⟨p, pre, trim, d1, d2, -, -⟩ := sound
  exact ⟨p, pre, trim, d1, d2, rfl, rfl⟩

theorem enterJam_sound (c : JamCause) (sound : g.sound) : (g.enterJam c).sound := by
  obtain ⟨p, pre, trim, d1, d2, -, -⟩ := sound
  exact ⟨p, pre, trim, d1, d2, rfl, by simp [Gate.enterJam]⟩

theorem startRun_sound {d : Drive} (run : d = .opening ∨ d = .closing) (sound : g.sound) : (g.startRun d).sound := by
  obtain ⟨p, pre, trim, d1, d2, -, -⟩ := sound
  rcases run with rfl | rfl <;> exact ⟨p, pre, trim, d1, d2, rfl, rfl⟩

theorem fixAt_sound {v : Nat} (range : v ≤ 1000) (sound : g.sound) : (g.fixAt v).sound := by
  obtain ⟨-, -, rest⟩ := sound
  exact ⟨range, Nat.zero_le 3, rest⟩

theorem decideStopped_sound (sound : g.sound) : g.decideStopped.sound := by
  have zero := fixAt_sound (Nat.zero_le 1000) sound
  have top := fixAt_sound (le_refl 1000) sound
  unfold Gate.decideStopped
  dsimp only
  split_ifs
  · exact startRun_sound (.inr rfl) top
  · exact top
  · exact startRun_sound (.inl rfl) sound
  · exact startRun_sound (.inl rfl) zero
  · exact zero
  · exact startRun_sound (.inr rfl) sound
  · exact sound

theorem decide_sound (sound : g.sound) : g.decide.sound := by
  unfold Gate.decide
  split
  · exact decideStopped_sound sound
  · split
    · exact rest_sound sound
    · exact sound
  · split
    · exact rest_sound sound
    · exact sound
  · exact sound
  · exact sound

theorem decide_target (g : Gate) : g.decide.target = g.target := by
  unfold Gate.decide Gate.decideStopped
  dsimp only
  split
  · split_ifs <;> rfl
  · split <;> rfl
  · split <;> rfl
  · rfl
  · rfl

theorem setTarget_sound (t : Nat) (sound : g.sound) : (g.setTarget t).sound := decide_sound (g := { g with target := t }) sound

theorem setTarget_target (t : Nat) (g : Gate) : (g.setTarget t).target = t := decide_target _

theorem activate_sound (sw : EndSwitch) (sound : g.sound) : (g.activate sw).sound := by
  have fixed : (g.fixAt (endPosition sw)).sound := fixAt_sound (by cases sw <;> decide) sound
  unfold Gate.activate
  dsimp only
  split
  · exact rest_sound fixed
  · exact rest_sound fixed
  · exact decide_sound fixed

theorem activate_target (sw : EndSwitch) (g : Gate) : (g.activate sw).target = g.target := by
  unfold Gate.activate
  dsimp only
  split
  · rfl
  · rfl
  · exact decide_target _

/-- R41: a pulse outside a run does nothing; within one it restarts the jam timer and moves the count or the prescaler. -/
theorem pulse_cases (g : Gate) : g.pulse = g ∨ (g.driving = true ∧ ∃ p n, (p ≤ 1000 ∨ p ≤ g.p) ∧ n ≤ 3 ∧
    (g.pulse = { g with jam := some 4000000, prescaler := n, p := p } ∨
      g.pulse = Gate.decide { g with jam := some 4000000, prescaler := n, p := p })) := by
  unfold Gate.pulse
  dsimp only
  split
  · next drive =>
    refine .inr ⟨by rw [Gate.driving, drive], ?_⟩
    split_ifs with fourth
    · exact ⟨_, 0, .inl (Nat.min_le_right (g.p + 1) 1000), Nat.zero_le 3, .inl rfl⟩
    · exact ⟨_, 0, .inl (Nat.min_le_right (g.p + 1) 1000), Nat.zero_le 3, .inr rfl⟩
    · exact ⟨g.p, g.prescaler + 1, .inr (le_refl _), Nat.lt_of_not_le fourth, .inl rfl⟩
  · next drive =>
    refine .inr ⟨by rw [Gate.driving, drive], ?_⟩
    split_ifs with fourth
    · exact ⟨_, 0, .inr (Nat.sub_le g.p 1), Nat.zero_le 3, .inl rfl⟩
    · exact ⟨_, 0, .inr (Nat.sub_le g.p 1), Nat.zero_le 3, .inr rfl⟩
    · exact ⟨g.p, g.prescaler + 1, .inr (le_refl _), Nat.lt_of_not_le fourth, .inl rfl⟩
  all_goals exact .inl rfl

theorem pulse_sound (sound : g.sound) : g.pulse.sound ∧ g.pulse.target = g.target := by
  rcases pulse_cases g with same | ⟨driving, p, n, range, small, moved⟩
  · rw [same]
    exact ⟨sound, rfl⟩
  obtain ⟨top, pre, trim, d1, d2, jam, pause⟩ := sound
  have counted : Gate.sound { g with jam := some 4000000, prescaler := n, p := p } :=
    ⟨range.elim id (le_trans · top), small, trim, d1, d2, driving.symm, pause⟩
  rcases moved with quiet | decided
  · rw [quiet]
    exact ⟨counted, rfl⟩
  · rw [decided]
    exact ⟨decide_sound counted, decide_target _⟩

theorem pauseOver_sound (sound : g.sound) : g.pauseOver.sound ∧ g.pauseOver.target = g.target := by
  unfold Gate.pauseOver
  split
  · next pausing =>
    obtain ⟨top, pre, trim, d1, d2, jam, pause⟩ := sound
    have idle : g.driving = false := by rw [Gate.driving, pausing]
    exact ⟨decide_sound ⟨top, pre, trim, d1, d2, by rw [jam, idle]; rfl, rfl⟩, decide_target _⟩
  all_goals exact ⟨sound, rfl⟩

theorem setLevel_sound (sw : EndSwitch) (active : Bool) (sound : g.sound) :
    (g.setLevel sw active).sound ∧ (g.setLevel sw active).target = g.target := by
  cases sw <;> exact ⟨sound, rfl⟩

end

/-- R40, R50, R51: what holds of the gate beside the reset in progress. -/
def State.gateHeld (s : State) : Prop := s.gate.sound ∧ s.gate.heldTo s.water.ceiling s.prot.trip

/-- Two states that differ outside the three blocks alone. -/
theorem gateHeld_of_blank (blank : State → State) (gate : ∀ s, (blank s).gate = s.gate) (water : ∀ s, (blank s).water = s.water)
    (prot : ∀ s, (blank s).prot = s.prot) {s u : State} (h : blank u = blank s) (held : s.gateHeld) : u.gateHeld := by
  rwa [State.gateHeld, block_of_blank State.gate blank gate h, block_of_blank State.water blank water h,
    block_of_blank State.prot blank prot h]

section
variable {s u : State}

/-- R40: a part that leaves the gate, the water plan and the trip leaves what holds of them. -/
theorem gateHeld_of_same (gate : u.gate = s.gate) (water : u.water = s.water) (trip : u.prot.trip = s.prot.trip)
    (held : s.gateHeld) : u.gateHeld := by
  rwa [State.gateHeld, gate, water, trip]

/-- g_t set within the ceiling, and to 0 in a trip. -/
theorem setTarget_held {t : Nat} (within : t ≤ s.water.ceiling) (trip : s.prot.trip = true → t = 0) (held : s.gateHeld) :
    State.gateHeld { s with gate := s.gate.setTarget t } := by
  refine ⟨setTarget_sound t held.1, ?_⟩
  show (s.gate.setTarget t).heldTo _ _
  rw [Gate.heldTo, setTarget_target]
  exact ⟨within, trip⟩

/-- A gate that is sound with the target as it was. -/
theorem sameTarget_held {g : Gate} (moved : g.sound ∧ g.target = s.gate.target) (held : s.gateHeld) :
    State.gateHeld { s with gate := g } := by
  refine ⟨moved.1, ?_⟩
  show g.heldTo s.water.ceiling s.prot.trip
  rw [Gate.heldTo, moved.2]
  exact held.2

theorem trimTarget_le (within : s.gate.target ≤ s.water.ceiling) : s.trimTarget ≤ s.water.ceiling := by
  unfold State.trimTarget
  split_ifs
  · exact le_trans (Nat.sub_le _ _) within
  · exact Nat.min_le_left _ _
  · exact within

theorem trimDecision_held (held : s.gateHeld) : s.trimDecision.gateHeld := by
  unfold State.trimDecision
  split_ifs with skipped
  · exact held
  · exact held
  · exact setTarget_held (trimTarget_le held.2.1) (fun trip => by simp [trip] at skipped) held

theorem raise_held (a : Attn) (held : s.gateHeld) : (s.raise a).gateHeld :=
  gateHeld_of_blank State.exceptTable (by rintro ⟨⟩; rfl) (by rintro ⟨⟩; rfl) (by rintro ⟨⟩; rfl)
    (State.raise_exceptTable _ _) held

theorem endSwitch_held (sw : EndSwitch) (active : Bool) (held : s.gateHeld) : (s.endSwitch sw active).gateHeld := by
  have level := setLevel_sound sw active held.1
  unfold State.endSwitch
  dsimp only
  split_ifs
  · exact sameTarget_held level held
  · exact raise_held _ (sameTarget_held ⟨enterJam_sound _ level.1, level.2⟩ held)
  · exact sameTarget_held ⟨activate_sound sw level.1, (activate_target sw _).trans level.2⟩ held

theorem jamExpiry_held (held : s.gateHeld) : s.jamExpiry.gateHeld := by
  unfold State.jamExpiry
  split
  · exact raise_held _ (sameTarget_held ⟨enterJam_sound .stall held.1, rfl⟩ held)
  · exact held

theorem GatePart.held (part : GatePart s u) (held : s.gateHeld) : u.gateHeld := by
  cases part with
  | pulse => exact sameTarget_held (pulse_sound held.1) held
  | endSwitch sw active => exact endSwitch_held sw active held
  | pauseOver => exact sameTarget_held (pauseOver_sound held.1) held
  | jam => exact jamExpiry_held held
  | trim => exact trimDecision_held held
  | retry => exact sameTarget_held ⟨rest_sound held.1, rfl⟩ held
  | gateSet t free => exact setTarget_held (Nat.min_le_right _ _) (fun trip => by simp [trip] at free) held
  | calibrate v range => exact sameTarget_held ⟨decide_sound (fixAt_sound range held.1), decide_target _⟩ held
  | trimSet float deadband least most =>
    obtain ⟨p, pre, trim, -, -, jam, pause⟩ := held.1
    exact sameTarget_held ⟨⟨p, pre, trim, least, most, jam, pause⟩, rfl⟩ held

theorem BarePart.gateHeld (part : BarePart s u) (held : s.gateHeld) : u.gateHeld := by
  cases part with
  | line part =>
    exact gateHeld_of_same (block_of_blank State.gate State.lineBlocks (by rintro ⟨⟩; rfl) part.lineBlocks) part.water
      (congrArg Protection.trip (block_of_blank State.prot State.lineBlocks (by rintro ⟨⟩; rfl) part.lineBlocks)) held
  | governor part =>
    exact gateHeld_of_blank (fun t => t.exceptTable.exceptGov) (by rintro ⟨⟩; rfl) (by rintro ⟨⟩; rfl) (by rintro ⟨⟩; rfl)
      part.exceptGov held
  | gate part => exact part.held held
  | silence =>
    unfold State.silenceOver
    split <;> exact held
  | stuck =>
    unfold State.stuckOver
    split <;> exact held
  | settledOver =>
    unfold Protection.settledOver
    split <;> exact held
  | tripClear => exact ⟨held.1, held.2.1, (absurd · Bool.false_ne_true)⟩
  | _ => exact held

/-! #### A completion and the other settled events -/

theorem positionerTake_held (held : s.gateHeld) : s.positionerTake.gateHeld := by
  have counted : ∀ n, n ≤ 15 → State.gateHeld { s with gate := { s.gate with trim := n } } := fun n range => by
    obtain ⟨p, pre, -, d1, d2, jam, pause⟩ := held.1
    exact sameTarget_held ⟨⟨p, pre, range, d1, d2, jam, pause⟩, rfl⟩ held
  unfold State.positionerTake
  split_ifs with last
  · exact trimDecision_held (counted 0 (Nat.zero_le 15))
  · exact counted _ (by omega)

theorem tripOnset_held (held : s.gateHeld) : s.tripOnset.gateHeld := by
  refine raise_held _ (gateHeld_of_blank State.exceptTable (by rintro ⟨⟩; rfl) (by rintro ⟨⟩; rfl) (by rintro ⟨⟩; rfl)
    (raiseAll_exceptTable _ _) ?_)
  exact ⟨setTarget_sound 0 held.1, by
    show (s.gate.setTarget 0).heldTo _ _
    rw [Gate.heldTo, setTarget_target]
    exact ⟨Nat.zero_le _, fun _ => rfl⟩⟩

theorem countUf_held (under : Bool) (held : s.gateHeld) : (s.countUf under).gateHeld :=
  gateHeld_of_same (block_of_blank State.gate State.shedBlocks (by rintro ⟨⟩; rfl) (countUf_shedBlocks under s))
    (block_of_blank State.water State.shedBlocks (by rintro ⟨⟩; rfl) (countUf_shedBlocks under s)) (countUf_trip under s) held

theorem protectionTake_held (c : Completion) (held : s.gateHeld) : (s.protectionTake c).gateHeld := by
  have trip : (s.prot.settle (decide (s.fset - settledMargin ≤ (c.f : Int)))).trip = s.prot.trip := by
    unfold Protection.settle
    split <;> (try split) <;> rfl
  have settled : State.gateHeld { s with prot := s.prot.settle (decide (s.fset - settledMargin ≤ (c.f : Int))) } :=
    ⟨held.1, held.2.1, fun h => held.2.2 (trip.symm.trans h)⟩
  unfold State.protectionTake
  dsimp only
  split
  · exact tripOnset_held settled
  · exact countUf_held _ settled

theorem complete_held (sense : BitVec 8) (c : Completion) (held : s.gateHeld) : (s.complete sense c).gateHeld :=
  complete_keeps State.gateHeld sense c (fun _ _ h => h)
    (fun t prev => gateHeld_of_blank (fun t => t.exceptTable.exceptGov) (by rintro ⟨⟩; rfl) (by rintro ⟨⟩; rfl)
      (by rintro ⟨⟩; rfl) (governorTake_exceptGov prev sense c t))
    (fun _ => positionerTake_held) (fun _ h => h) (fun _ => protectionTake_held c) held

/-- The gate as the owner of a settled event leaves it, under the ceiling of the event's beginning. -/
theorem SettledPart.heldBefore (part : SettledPart s u) (held : s.gateHeld) :
    u.gate.sound ∧ u.gate.heldTo s.water.ceiling u.prot.trip := by
  have same : u.gate = s.gate → u.prot.trip = s.prot.trip → u.gate.sound ∧ u.gate.heldTo s.water.ceiling u.prot.trip :=
    fun gate trip => by rw [gate, trip]; exact held
  have blank : ∀ f : State → State, (∀ s, (f s).gate = s.gate) → (∀ s, (f s).prot = s.prot) → f u = f s →
      u.gate.sound ∧ u.gate.heldTo s.water.ceiling u.prot.trip := fun f gate prot h =>
    same (block_of_blank State.gate f gate h) (congrArg Protection.trip (block_of_blank State.prot f prot h))
  have shed : u.shedBlocks = s.shedBlocks → u.prot.trip = s.prot.trip →
      u.gate.sound ∧ u.gate.heldTo s.water.ceiling u.prot.trip := fun h =>
    same (block_of_blank State.gate State.shedBlocks (by rintro ⟨⟩; rfl) h)
  have saw : u.sawBlocks = s.sawBlocks → u.gate.sound ∧ u.gate.heldTo s.water.ceiling u.prot.trip :=
    blank State.sawBlocks (by rintro ⟨⟩; rfl) (by rintro ⟨⟩; rfl)
  cases part with
  | line part => exact blank State.powerBlocks (by rintro ⟨⟩; rfl) (by rintro ⟨⟩; rfl) part.powerBlocks
  | complete sense c least most =>
    have after := complete_held sense c held
    have water : (s.complete sense c).water = s.water :=
      block_of_blank State.water (fun t => t.exceptTable.windowBlocks) (by rintro ⟨⟩; rfl) (complete_windowBlocks sense c s)
    rwa [State.gateHeld, water] at after
  | slowPeriod => exact shed (slowPeriod_shedBlocks s) (countUf_trip true _)
  | restoreTick =>
    exact blank (fun t => t.exceptTable.exceptSaw.exceptAccount) (by rintro ⟨⟩; rfl) (by rintro ⟨⟩; rfl)
      (restoreTick_exceptAccount s)
  | debounceOver => exact saw (debounceOver_sawBlocks s)
  | waitingOver => exact saw (waitingOver_sawBlocks s)
  | preparingOver => exact saw (preparingOver_sawBlocks s)
  | idleOver => exact saw (idleOver_sawBlocks s)
  | sawGrant d => exact held
  | sawStop => exact held
  | shedStep =>
    obtain ⟨o, prot⟩ := shedStep_prot s
    exact shed (shedStep_shedBlocks s) (by rw [prot])
  | supplyReset => exact held

/-! #### The ceiling event (R50) -/

theorem rederive_gate (s : State) : s.rederive.gate = s.gate :=
  block_of_blank State.gate (fun t => t.exceptTable.exceptSaw.exceptAccount) (by rintro ⟨⟩; rfl) (rederive_exceptAccount s)

theorem settle_gate (before s : State) : (State.settle before s).gate =
    if s.water.ceiling = before.water.ceiling then s.gate else s.gate.ceilingEvent s.water.ceiling := by
  have level : (State.levelEvent before s).water = s.water ∧ (State.levelEvent before s).gate = s.gate :=
    ⟨block_of_blank State.water State.exceptTable (by rintro ⟨⟩; rfl) (levelEvent_exceptTable before s),
      block_of_blank State.gate State.exceptTable (by rintro ⟨⟩; rfl) (levelEvent_exceptTable before s)⟩
  rw [State.settle, afterPass_block State.gate (by rintro ⟨⟩; rfl)]
  show (State.ceilingChange before (State.levelEvent before s)).rederive.gate = _
  rw [rederive_gate, State.ceilingChange, level.1]
  split
  · exact level.2
  · show Gate.ceilingEvent _ (State.levelEvent before s).gate = _
    rw [level.2]

/-- R50: after the ceiling event g_t is within the ceiling in force. -/
theorem settle_held {before : State} (sound : s.gate.sound) (held : s.gate.heldTo before.water.ceiling s.prot.trip) :
    (State.settle before s).gateHeld := by
  rw [State.gateHeld, settle_gate, settle_water, settle_prot]
  split
  · next same => exact ⟨sound, same ▸ held⟩
  · unfold Gate.ceilingEvent
    split
    · next above =>
      refine ⟨setTarget_sound _ sound, ?_⟩
      rw [Gate.heldTo, setTarget_target]
      exact ⟨le_refl _, fun trip => absurd (held.2 trip) (by omega)⟩
    · next within => exact ⟨sound, Nat.le_of_not_lt within, held.2⟩

/-! #### The resets and the count -/

theorem atReset_gate_sound : Gate.atReset.sound := by
  unfold Gate.sound
  decide

theorem atReset_gateHeld (s : State) (prot : Protection) (trip : prot.trip = false) :
    State.gateHeld { s with gate := Gate.atReset, water := Water.atReset, prot := prot } :=
  ⟨atReset_gate_sound, by show (500 : Nat) ≤ 1000; decide, fun h => by rw [trip] at h; cases h⟩

theorem foundAt_sound {g : Gate} (ceiling : Nat) (shut full : Bool) (sound : g.sound) :
    (g.foundAt ceiling shut full).sound := by
  have levels : Gate.sound { g with shut := shut, full := full } := sound
  have shutAt := fixAt_sound (Nat.zero_le 1000) levels
  have fullAt := fixAt_sound (le_refl 1000) levels
  unfold Gate.foundAt
  dsimp only
  split_ifs
  · exact enterJam_sound _ levels
  · exact shutAt
  · exact fullAt
  · exact levels

theorem foundAt_target {g : Gate} {ceiling : Nat} (shut full : Bool) (within : g.target ≤ ceiling) :
    (g.foundAt ceiling shut full).target ≤ ceiling := by
  unfold Gate.foundAt
  dsimp only
  split_ifs
  · exact within
  · exact Nat.min_le_right _ _
  · exact Nat.min_le_right _ _
  · exact within

theorem endReset_gate (s : State) (k : ResetKind) (nomsel shut full engaged : Bool) :
    (s.endReset k nomsel shut full engaged).gate = s.gate.foundAt s.water.ceiling shut full := by
  unfold State.endReset State.raiseIf
  cases shut && full <;> rfl

theorem count_gateHeld (held : s.gateHeld) : s.count.gateHeld := by
  obtain ⟨⟨p, pre, trim, d1, d2, jam, pause⟩, target⟩ := held
  exact ⟨⟨p, pre, trim, d1, d2, Option.isSome_map.trans jam, Option.isSome_map.trans pause⟩, target⟩

end

/-- What O52 asks, in the form that each part keeps. -/
def State.gateSteady (s : State) : Prop := s.gateHeld ∧ (s.resetting.isSome = true → s.prot.trip = false)

theorem gateSteady_kept : Kept State.gateSteady where
  queue _ _ _ _ _ sound := sound
  count _ _ sound := ⟨count_gateHeld sound.1, sound.2⟩
  bare _ _ awake part sound := ⟨part.gateHeld sound.1, part.trip awake⟩
  settled s u awake part sound := by
    obtain ⟨gate, held⟩ := part.heldBefore sound.1
    refine ⟨settle_held gate held, fun h => ?_⟩
    rw [settle_resetting, part.resetting, awake] at h
    cases h
  powerOn s _ := ⟨atReset_gateHeld s.powerOnReset _ rfl, fun _ => rfl⟩
  pin s _ := ⟨atReset_gateHeld s.pinReset s.pinReset.prot rfl, fun _ => rfl⟩
  ended s k nomsel shut full engaged reset := fun ⟨⟨sound, within, _⟩, calm⟩ => by
    have calm := calm (by rw [reset]; rfl)
    have prot := (endReset_gov s k nomsel shut full engaged).2
    rw [State.gateSteady, State.gateHeld, endReset_gate, endReset_water, prot, calm]
    exact ⟨⟨foundAt_sound _ _ _ sound, foundAt_target _ _ within, (absurd · Bool.false_ne_true)⟩, fun _ => rfl⟩

/-- Settles O52. -/
theorem gateStaysSound : Obligations.GateStaysSound := by
  intro s t sound h
  rw [gateSound_iff] at sound ⊢
  exact gateSteady_kept.step s t sound h

end Sys2Proof.Machine

/-! ## Proofs: the station table (05_the_station_table.md) -/

namespace Sys2Proof.Machine

/-! ### What the placing of errands changes (R83, R140, R143) -/

/-- A record but for its mute errand. -/
def Station.exceptMute (st : Station) : Station := { st with mute := .idle }

def Record.exceptMute (r : Record) : Record := { r with station := r.station.map Station.exceptMute }

def Engine.exceptErrands (e : Engine) : Engine := { e with errands := [] }

/-- What the placing of errands moves: the errand queue and the mute errands of records. -/
structure ErrandsOnly (s u : State) : Prop where
  record : ∀ n, (u.record n).exceptMute = (s.record n).exceptMute
  engine : u.engine.exceptErrands = s.engine.exceptErrands

namespace ErrandsOnly

theorem refl (s : State) : ErrandsOnly s s := ⟨fun _ => rfl, rfl⟩

theorem trans {s u v : State} (first : ErrandsOnly s u) (next : ErrandsOnly u v) : ErrandsOnly s v :=
  ⟨fun n => (next.record n).trans (first.record n), next.engine.trans first.engine⟩

theorem station {s u : State} (only : ErrandsOnly s u) (n : Slot) :
    (u.station n).map Station.exceptMute = (s.station n).map Station.exceptMute :=
  congrArg Record.station (only.record n)

/-- The errand queue is replaced. -/
theorem errands (l : List Errand) (s : State) : ErrandsOnly s { s with engine := { s.engine with errands := l } } :=
  ⟨fun _ => rfl, rfl⟩

theorem foldl {α : Type} (f : State → α → State) (step : ∀ t x, ErrandsOnly t (f t x)) (l : List α) (s : State) :
    ErrandsOnly s (l.foldl f s) :=
  List.foldlRecOn (motive := ErrandsOnly s) _ _ (refl s) fun t only x _ => only.trans (step t x)

end ErrandsOnly

theorem setMute_of_some {n : Slot} {st : Station} {s : State} (m : MuteErrand) (here : s.station n = some st) :
    s.setMute n m = s.setStation n { st with mute := m } := by rw [State.setMute, here]

theorem setMute_of_none {n : Slot} {s : State} (m : MuteErrand) (vacant : s.station n = none) : s.setMute n m = s := by
  rw [State.setMute, vacant]

theorem setMute_errandsOnly (n : Slot) (m : MuteErrand) (s : State) : ErrandsOnly s (s.setMute n m) := by
  cases here : s.station n with
  | none => rw [setMute_of_none m here]; exact .refl s
  | some st =>
    rw [setMute_of_some m here]
    refine ⟨fun k => ?_, rfl⟩
    by_cases same : n = k
    · subst same
      rw [State.setStation, record_setRecord_self]
      show (Record.mk _ _) = Record.mk _ ((s.station n).map Station.exceptMute)
      rw [here]
      rfl
    · rw [State.setStation, record_setRecord_ne _ _ _ _ same]

theorem placeWantedMute_errandsOnly (n : Slot) (s : State) : ErrandsOnly s (s.placeWantedMute n) := by
  unfold State.placeWantedMute
  split
  · exact .refl s
  · split_ifs
    · exact setMute_errandsOnly n _ s
    · exact .refl s
    · exact (ErrandsOnly.errands _ s).trans (setMute_errandsOnly n _ _)
    · exact (ErrandsOnly.errands _ s).trans (setMute_errandsOnly n _ _)
    · exact .refl s

theorem wantMute_errandsOnly (n : Slot) (s : State) : ErrandsOnly s (s.wantMute n) :=
  (setMute_errandsOnly n _ s).trans (placeWantedMute_errandsOnly n _)

theorem placeMute_errandsOnly (x : Serial) (s : State) : ErrandsOnly s (s.placeMute x) := by
  unfold State.placeMute
  split
  · exact .errands _ s
  · exact .refl s

theorem placeFreed_errandsOnly (s : State) : ErrandsOnly s s.placeFreed := by
  unfold State.placeFreed
  split
  · exact placeWantedMute_errandsOnly _ s
  · exact .refl s

theorem readyTest_errandsOnly (n : Slot) (s : State) : ErrandsOnly s (s.readyTest n) := by
  unfold State.readyTest
  split
  · split
    · exact wantMute_errandsOnly n s
    · exact .refl s
  · exact .refl s

theorem dropStale_errandsOnly (k : Nat) (s : State) : ErrandsOnly s (s.dropStale k) := by
  induction k generalizing s with
  | zero => exact .refl s
  | succ k ih =>
    unfold State.dropStale
    split
    · split
      · exact .refl s
      · exact ((ErrandsOnly.errands _ s).trans (placeFreed_errandsOnly _)).trans (ih _)
    · exact .refl s
    · exact .refl s

theorem unqueueMutes_errandsOnly (s : State) : ErrandsOnly s s.unqueueMutes := by
  unfold State.unqueueMutes
  refine .foldl _ (fun t n => ?_) _ _
  split
  · split
    · exact setMute_errandsOnly _ _ t
    · exact .refl t
  · exact .refl t

theorem placeAllWanted_errandsOnly (s : State) : ErrandsOnly s s.placeAllWanted := by
  unfold State.placeAllWanted
  refine .foldl _ (fun t n => ?_) _ _
  split
  · split
    · exact placeWantedMute_errandsOnly _ t
    · exact .refl t
  · exact .refl t

/-! ### What the choice of a turn changes (R141) -/

/-- The engine but for what the choice of a turn takes from. -/
def Engine.exceptQueues (e : Engine) : Engine :=
  { e with sheds := [], errands := [], cursor := 0, lastRoll := false, stack := [] }

/-- What the choice of a turn moves of the table and the engine. -/
structure QueuesOnly (s u : State) : Prop where
  record : ∀ n, (u.record n).exceptMute = (s.record n).exceptMute
  engine : u.engine.exceptQueues = s.engine.exceptQueues

theorem ErrandsOnly.queues {s u : State} (only : ErrandsOnly s u) : QueuesOnly s u :=
  ⟨only.record, show u.engine.exceptErrands.exceptQueues = s.engine.exceptErrands.exceptQueues by rw [only.engine]⟩

namespace QueuesOnly

theorem trans {s u v : State} (first : QueuesOnly s u) (next : QueuesOnly u v) : QueuesOnly s v :=
  ⟨fun n => (next.record n).trans (first.record n), next.engine.trans first.engine⟩

theorem station {s u : State} (only : QueuesOnly s u) (n : Slot) :
    (u.station n).map Station.exceptMute = (s.station n).map Station.exceptMute :=
  congrArg Record.station (only.record n)

end QueuesOnly

theorem hand_queuesOnly {s u : State} (roll : Bool) (m : Message) (table : u.table = s.table)
    (engine : u.engine.exceptQueues = s.engine.exceptQueues) : QueuesOnly s (u.hand roll m) :=
  ⟨fun n => congrArg Record.exceptMute (congrArg (fun t : Vector Record 64 => t[n]) table),
    engine⟩

theorem chooseRollOrPoll_queuesOnly (s : State) : QueuesOnly s s.chooseRollOrPoll := by
  unfold State.chooseRollOrPoll
  split
  · exact hand_queuesOnly _ _ rfl rfl
  · split
    · exact hand_queuesOnly _ _ rfl rfl
    · exact (ErrandsOnly.refl s).queues

theorem choosePush_queuesOnly (s : State) : QueuesOnly s s.choosePush := by
  unfold State.choosePush
  split
  · split
    · exact hand_queuesOnly _ _ rfl rfl
    · exact chooseRollOrPoll_queuesOnly s
  · exact chooseRollOrPoll_queuesOnly s

theorem chooseErrand_queuesOnly (s : State) : QueuesOnly s s.chooseErrand := by
  have dropped := (dropStale_errandsOnly s.engine.errands.length s).queues
  unfold State.chooseErrand
  dsimp only
  split
  · refine dropped.trans (QueuesOnly.trans ?_ (placeFreed_errandsOnly _).queues)
    exact hand_queuesOnly _ _ rfl rfl
  · exact dropped.trans (hand_queuesOnly _ _ rfl rfl)
  · exact dropped.trans (choosePush_queuesOnly _)

theorem chooseTurn_queuesOnly (s : State) : QueuesOnly s s.chooseTurn := by
  rcases s.chooseTurn_cases with stays | ⟨-, -, clear | ⟨e, rest, -, shed⟩ | errand⟩
  · rw [stays]; exact (ErrandsOnly.refl s).queues
  · rw [clear]; exact hand_queuesOnly _ _ rfl rfl
  · rw [shed]; exact hand_queuesOnly _ _ rfl rfl
  · rw [errand]; exact chooseErrand_queuesOnly s

/-! ### Records in range (5.2) -/

/-- R72: what a condition asks of the record's lifecycle and of its target limit. -/
def Condition.fits (life : Life) (limit : Nat) : Condition → Prop
  | .off => True
  | .connected => life = .enrolled ∧ Config.leastLimit ≤ limit
  | .shed d _ => life = .enrolled ∧ ∀ x ∈ d, x ≤ 4095
  | .tripped t => life = .enrolled ∧ ∀ x ∈ t, x ≤ Config.recloseTime
  | .isolated _ => life = .enrolled

theorem serviceInRange_iff (life : Life) (sv : Service) : sv.inRange life = true ↔
    (sv.limit ≤ 2000 ∧ sv.cls ≤ 3 ∧ sv.live ≤ Config.longTime) ∧ (∀ p ∈ sv.staged, p.limit ≤ 2000 ∧ p.cls ≤ 3) ∧
      (∀ a ∈ sv.ack, a.limit ≤ 4095 ∧ a.cls ≤ 3) ∧ (∀ d ∈ sv.demand, d ≤ 4095) ∧ sv.condition.fits life sv.limit := by
  cases condition : sv.condition <;>
    simp [Service.inRange, condition, Condition.fits, Option.all_eq_true, and_assoc]

theorem stationInRange_iff (st : Station) : st.inRange = true ↔
    st.missed ≤ 3 ∧ (st.silence.isSome = true ↔ st.missed = 3) ∧ (∀ t ∈ st.silence, t ≤ Config.longTime) ∧
      ∀ sv ∈ st.service, sv.inRange st.life = true := by
  have silent : (st.silence.isSome == decide (st.missed = 3)) = true ↔ (st.silence.isSome = true ↔ st.missed = 3) := by
    rw [beq_iff_eq, Bool.eq_iff_iff, decide_eq_true_iff]
  rw [Station.inRange, Bool.and_eq_true, Bool.and_eq_true, Bool.and_eq_true, silent]
  simp [Option.all_eq_true, and_assoc]

/-- A record's fields moved within the ranges. -/
theorem serviceInRange_condition {life : Life} {sv : Service} {c : Condition} (fits : c.fits life sv.limit)
    (range : sv.inRange life = true) : { sv with condition := c }.inRange life = true := by
  rw [serviceInRange_iff] at range ⊢
  obtain ⟨fields, staged, ack, demand, -⟩ := range
  exact ⟨fields, staged, ack, demand, fits⟩

/-- R72: a record that would become Connected below the least limit becomes Off. -/
theorem connect_inRange {sv : Service} (range : sv.inRange .enrolled = true) : sv.connect.inRange .enrolled = true := by
  refine serviceInRange_condition ?_ range
  split
  · trivial
  · next least => exact ⟨rfl, Nat.le_of_not_lt least⟩

/-! ### Tables whose every record comes from one of another table -/

/-- A record later, of the same station and kind, in range where it was. -/
def Station.follows (st later : Station) : Prop :=
  later.serial = st.serial ∧ later.kind = st.kind ∧ (st.inRange = true → later.inRange = true)

theorem Station.follows_rfl (st : Station) : st.follows st := ⟨rfl, rfl, id⟩

/-- Only the Service fields of a record change. -/
theorem follows_service {st : Station} {sv later : Service} (here : st.service = some sv)
    (range : sv.inRange st.life = true → later.inRange st.life = true) :
    st.follows { st with service := some later } := by
  refine ⟨rfl, by simp [Station.kind, here], fun sound => ?_⟩
  rw [stationInRange_iff] at sound ⊢
  obtain ⟨missed, silent, silence, service⟩ := sound
  refine ⟨missed, silent, silence, fun sv' eq => ?_⟩
  cases eq
  exact range (service sv here)

/-- R70: every station of the later state is one of the earlier, and so is every stray. -/
structure TableKept (s u : State) : Prop where
  station : ∀ n later, u.station n = some later → ∃ st, s.station n = some st ∧ st.follows later
  strays : ∀ x ∈ u.engine.strays, x ∈ s.engine.strays

namespace TableKept

theorem trans {s u v : State} (first : TableKept s u) (next : TableKept u v) : TableKept s v := by
  refine ⟨fun n later here => ?_, fun x h => first.strays x (next.strays x h)⟩
  obtain ⟨mid, there, serial, kind, range⟩ := next.station n later here
  obtain ⟨st, begin, serial', kind', range'⟩ := first.station n mid there
  exact ⟨st, begin, serial.trans serial', kind.trans kind', range ∘ range'⟩

theorem of_same {s u : State} (table : u.table = s.table) (strays : u.engine.strays = s.engine.strays) : TableKept s u :=
  ⟨fun n later here => ⟨later, by rwa [State.station, State.record, table] at here, later.follows_rfl⟩,
    fun x h => strays ▸ h⟩

theorem refl (s : State) : TableKept s s := .of_same rfl rfl

/-- An operation begun from a state with the same table and strays. -/
theorem from_same {s t u : State} (kept : TableKept t u) (table : t.table = s.table)
    (strays : t.engine.strays = s.engine.strays) : TableKept s u := trans (.of_same table strays) kept

theorem withEngine (s : State) {f : Engine → Engine} (strays : (f s.engine).strays = s.engine.strays) :
    TableKept s (s.withEngine f) := of_same rfl strays

theorem sound {s u : State} (kept : TableKept s u) (sound : s.tableSound) : u.tableSound := by
  obtain ⟨range, serials, strays, gauges⟩ := sound
  refine ⟨fun n st h => ?_, fun n m st su h h' same => ?_, fun n st h stray => ?_, fun n m st su h h' g g' => ?_⟩
  · obtain ⟨st', here, -, -, inRange⟩ := kept.station n st h
    exact inRange (range n st' here)
  · obtain ⟨st', here, serial, -⟩ := kept.station n st h
    obtain ⟨su', there, serial', -⟩ := kept.station m su h'
    exact serials n m st' su' here there (serial.symm.trans (same.trans serial'))
  · obtain ⟨st', here, serial, -⟩ := kept.station n st h
    exact strays n st' here (serial ▸ kept.strays _ stray)
  · obtain ⟨st', here, -, kind, -⟩ := kept.station n st h
    obtain ⟨su', there, -, kind', -⟩ := kept.station m su h'
    exact gauges n m st' su' here there (kind ▸ g) (kind' ▸ g')

theorem foldl {α : Type} (f : State → α → State) (step : ∀ t x, TableKept t (f t x)) (l : List α) (s : State) :
    TableKept s (l.foldl f s) :=
  List.foldlRecOn (motive := TableKept s) _ _ (refl s) fun t kept x _ => kept.trans (step t x)

/-- The Vacant record of a slot stands in for the station that it held. -/
theorem setRecord_vacant (n : Slot) (c : Bool) (s : State) : TableKept s (s.setRecord n ⟨c, none⟩) := by
  refine ⟨fun m later here => ?_, fun _ h => h⟩
  by_cases same : n = m
  · subst same
    rw [station_setRecord_self] at here
    cases here
  · rw [station_setRecord_ne _ _ _ _ same] at here
    exact ⟨later, here, later.follows_rfl⟩

theorem setStation {n : Slot} {st later : Station} {s : State} (here : s.station n = some st) (follows : st.follows later) :
    TableKept s (s.setStation n later) := by
  refine ⟨fun m found there => ?_, fun _ h => h⟩
  by_cases same : n = m
  · subst same
    rw [State.setStation, station_setRecord_self] at there
    cases there
    exact ⟨st, here, follows⟩
  · rw [State.setStation, station_setRecord_ne _ _ _ _ same] at there
    exact ⟨found, there, found.follows_rfl⟩

theorem setService {n : Slot} {st : Station} {sv later : Service} {s : State} (here : s.station n = some st)
    (service : st.service = some sv) (range : sv.inRange st.life = true → later.inRange st.life = true) :
    TableKept s (s.setService n st later) := setStation here (follows_service service range)

/-- The changed flag alone is written. -/
theorem setChanged (n : Slot) (c : Bool) (s : State) : TableKept s (s.setRecord n { s.record n with changed := c }) := by
  refine ⟨fun m later here => ?_, fun _ h => h⟩
  by_cases same : n = m
  · subst same
    rw [station_setRecord_self] at here
    exact ⟨later, here, later.follows_rfl⟩
  · rw [station_setRecord_ne _ _ _ _ same] at here
    exact ⟨later, here, later.follows_rfl⟩

theorem raise (a : Attn) (s : State) : TableKept s (s.raise a) := .of_same (State.raise_table a s) (by simp)

/-- A flag raised after other blocks have been written. -/
theorem raised {s t : State} {a : Attn} (table : t.table = s.table) (strays : t.engine.strays = s.engine.strays) :
    TableKept s (t.raise a) := (raise a t).from_same table strays

theorem raiseIf (c : Bool) (a : Attn) (s : State) : TableKept s (s.raiseIf c a) := by
  cases c with
  | false => exact refl s
  | true => exact raise a s

theorem markChanged (n : Slot) (s : State) : TableKept s (s.markChanged n) := by
  unfold State.markChanged
  split
  · exact refl s
  · exact (setChanged n true s).trans (raise _ _)

end TableKept

theorem exceptMute_inRange (st : Station) : st.exceptMute.inRange = st.inRange := rfl

/-- Records that differ in their mute errand alone. -/
theorem tableKept_of_exceptMute {s u : State}
    (record : ∀ n, (u.station n).map Station.exceptMute = (s.station n).map Station.exceptMute)
    (strays : u.engine.strays = s.engine.strays) : TableKept s u := by
  refine ⟨fun n later here => ?_, fun x h => strays ▸ h⟩
  have same := record n
  rw [here, Option.map_some, eq_comm, Option.map_eq_some_iff] at same
  obtain ⟨st, there, eq⟩ := same
  refine ⟨st, there, ?_, ?_, fun range => ?_⟩
  · show later.exceptMute.serial = _
    rw [← eq]; rfl
  · show later.exceptMute.kind = _
    rw [← eq]; rfl
  · rw [← exceptMute_inRange, ← eq]
    exact range

theorem ErrandsOnly.tableKept {s u : State} (only : ErrandsOnly s u) : TableKept s u :=
  tableKept_of_exceptMute only.station (by
    show u.engine.exceptErrands.strays = _
    rw [only.engine]; rfl)

theorem QueuesOnly.tableKept {s u : State} (only : QueuesOnly s u) : TableKept s u :=
  tableKept_of_exceptMute only.station (by
    show u.engine.exceptQueues.strays = _
    rw [only.engine]; rfl)

end Sys2Proof.Machine

/-! ## Proofs: the station table stays sound (R70, R72, R88) -/

namespace Sys2Proof.Machine

section
variable {s : State}

/-! ### Conditions (R72, R92, R93) -/

/-- An on-line Service record's condition is written. -/
theorem setCondition_tableKept {n : Slot} {st : Station} {sv : Service} {c : Condition}
    (here : s.onLineService n = some (st, sv)) (fits : sv.inRange st.life = true → c.fits st.life sv.limit) :
    TableKept s (s.setService n st { sv with condition := c }) := by
  obtain ⟨station, service, -⟩ := (onLineService_iff s n st sv).mp here
  exact .setService station service fun range => serviceInRange_condition (fits range) range

theorem connect_tableKept {n : Slot} {st : Station} {sv : Service} (here : s.enrolledService n = some (st, sv)) :
    TableKept s (s.setService n st sv.connect) := by
  obtain ⟨station, service, life⟩ := (enrolledService_iff s n st sv).mp here
  refine .setService station service fun range => ?_
  rw [life] at range ⊢
  exact connect_inRange range

theorem onLine_of_enrolled {n : Slot} {st : Station} {sv : Service} (here : s.enrolledService n = some (st, sv)) :
    s.onLineService n = some (st, sv) := by
  obtain ⟨station, service, life⟩ := (enrolledService_iff s n st sv).mp here
  exact (onLineService_iff s n st sv).mpr ⟨station, service, by rw [Station.onLine, life]⟩

/-- R92: the condition of a shed request is in range. -/
theorem shedBy_fits {life : Life} {sv : Service} {freq : Bool} {c : Condition} (shed : sv.shedBy freq = some c)
    (range : sv.inRange life = true) : c.fits life sv.limit := by
  obtain ⟨-, -, -, demand, fits⟩ := (serviceInRange_iff life sv).mp range
  have bound : sv.demand.getD 0 ≤ 4095 := by
    cases eq : sv.demand with
    | none => exact Nat.zero_le _
    | some d => exact demand d eq
  unfold Service.shedBy at shed
  split at shed
  · cases shed
  · split at shed
    · next connected =>
      rw [connected] at fits
      cases freq <;> cases shed
      · exact ⟨fits.1, by simp⟩
      · exact ⟨fits.1, by simpa using bound⟩
    · next d cap condition =>
      rw [condition] at fits
      cases freq <;> cases shed
      · exact fits
      · exact ⟨fits.1, by simpa using bound⟩
    all_goals cases shed

theorem shedRequest_tableKept (freq : Bool) (n : Slot) (s : State) : TableKept s (s.shedRequest freq n) := by
  unfold State.shedRequest
  split
  · next here =>
    split
    · next shed => exact (setCondition_tableKept here (shedBy_fits shed)).trans (.markChanged _ _)
    · exact .refl s
  · exact .refl s

theorem reclose_tableKept (n : Slot) (s : State) : TableKept s (s.reclose n) := by
  unfold State.reclose
  split
  · next here =>
    split
    · exact (connect_tableKept here).trans (.markChanged _ _)
    · exact .refl s
  · exact .refl s

theorem capacityRestore_tableKept (n : Slot) (s : State) : TableKept s (s.capacityRestore n) := by
  unfold State.capacityRestore
  split
  · next here =>
    split
    · exact (connect_tableKept here).trans (.markChanged _ _)
    · exact .refl s
  · exact .refl s

/-- R93: an Enrolled record Shed with the Capacity flag alone. -/
theorem capacityShed_tableKept {n : Slot} {st : Station} {sv : Service} (here : s.enrolledService n = some (st, sv)) :
    TableKept s (s.setService n st { sv with condition := .shed none true }) :=
  setCondition_tableKept (onLine_of_enrolled here) fun _ => ⟨((enrolledService_iff s n st sv).mp here).2.2, by simp⟩

theorem frequencyRestore_tableKept (admitted : Bool) (n : Slot) (s : State) :
    TableKept s (s.frequencyRestore admitted n) := by
  unfold State.frequencyRestore
  split
  · next here =>
    split
    · exact (capacityShed_tableKept here).trans (.markChanged _ _)
    · split
      · exact (connect_tableKept here).trans (.markChanged _ _)
      · exact (capacityShed_tableKept here).trans (.markChanged _ _)
    · exact .refl s
  · exact .refl s

/-! ### Replies (R84 to R89) -/

theorem linkAnswered_tableKept (n : Slot) (s : State) : TableKept s (s.linkAnswered n) := by
  have follows : ∀ st : Station, st.follows { st with
      missed := 0, silence := none, service := st.service.map fun sv => { sv with pushDeferred := false } } := by
    intro st
    refine ⟨rfl, ?_, fun range => ?_⟩
    · cases service : st.service <;> simp [Station.kind, service]
    · rw [stationInRange_iff] at range ⊢
      refine ⟨Nat.zero_le 3, by simp, by simp, fun sv eq => ?_⟩
      obtain ⟨sv', service, rfl⟩ := Option.map_eq_some_iff.mp eq
      exact range.2.2.2 sv' service
  unfold State.linkAnswered
  split
  · next st here =>
    dsimp only
    split
    · exact (TableKept.setStation here (follows st)).trans (.markChanged _ _)
    · exact .setStation here (follows st)
  · exact .refl s

theorem tripIndication_tableKept (n : Slot) (r : TripReason) (s : State) : TableKept s (s.tripIndication n r) := by
  unfold State.tripIndication
  split
  · next st sv here =>
    obtain ⟨station, service, life⟩ := (enrolledService_iff s n st sv).mp here
    split
    · refine TableKept.trans (.setService station service fun range => ?_) (.markChanged _ _)
      rw [serviceInRange_iff] at range ⊢
      obtain ⟨⟨limit, cls, -⟩, staged, ack, demand, -⟩ := range
      refine ⟨⟨limit, cls, Nat.zero_le _⟩, staged, ack, demand, ?_⟩
      cases r with
      | leakage => exact life
      | overcurrent =>
        cases sv.tripCount with
        | true => exact life
        | false => exact ⟨life, by simp⟩
    · exact .refl s
  · exact .refl s

/-- R123: what a reply reports is in range. -/
def Content.inRange : Content → Prop
  | .service a _ _ => a.limit ≤ 4095 ∧ a.cls ≤ 3
  | .gauge _ => True

theorem acknowledge_tableKept (n : Slot) {a : Settings} (demand : Nat) (s : State) (small : a.limit ≤ 4095 ∧ a.cls ≤ 3) :
    TableKept s (s.acknowledge n a demand) := by
  unfold State.acknowledge
  split
  · next st sv here =>
    obtain ⟨station, service, -⟩ := (onLineService_iff s n st sv).mp here
    refine .setService station service fun range => ?_
    rw [serviceInRange_iff] at range ⊢
    obtain ⟨fields, staged, -, -, fits⟩ := range
    exact ⟨fields, staged, by simpa using small, by simp [demandBound], fits⟩
  · exact .refl s

theorem report_tableKept (n : Slot) {c : Content} (s : State) (small : c.inRange) : TableKept s (s.report n c) := by
  cases c with
  | service a demand trip =>
    simp only [State.report, State.serviceReport]
    split
    · exact .refl s
    · refine (TableKept.trans ?_ (acknowledge_tableKept n demand _ small)).trans (readyTest_errandsOnly n _).tableKept
      cases trip with
      | none => exact linkAnswered_tableKept n s
      | some r => exact (linkAnswered_tableKept n s).trans (tripIndication_tableKept n r _)
  | gauge l =>
    simp only [State.report, State.gaugeReport]
    split
    · split
      · exact (linkAnswered_tableKept n s).trans (.of_same rfl rfl)
      · exact .refl s
    · exact .refl s

/-- R84: the condition of an enrollment is in range. -/
theorem enrolCondition_fits (sv : Service) (closed : Bool) (trip : Option TripReason) :
    (enrolCondition sv closed trip).fits .enrolled sv.limit := by
  unfold enrolCondition
  split
  · exact rfl
  · exact ⟨rfl, by simp⟩
  · split
    · next asked =>
      rw [Bool.and_eq_true, decide_eq_true_iff] at asked
      exact ⟨rfl, asked.2⟩
    · trivial

/-- R84: a Service record as a TAKE enrols it, in any condition that fits. -/
theorem enrolled_follows {st : Station} {sv : Service} {a : Settings} {c : Condition} {d : Nat} {count : Bool}
    (service : st.service = some sv) (small : a.limit ≤ 4095 ∧ a.cls ≤ 3) (fits : c.fits .enrolled sv.limit) :
    st.follows { st with
      life := .enrolled, missed := 0, silence := none, mute := .idle
      service := some { sv with
        ack := some a, demand := some (min d demandBound), condition := c, tripCount := count, live := 0
        pushDeferred := false } } := by
  refine ⟨rfl, by simp [Station.kind, service], fun range => ?_⟩
  rw [stationInRange_iff] at range ⊢
  refine ⟨Nat.zero_le 3, by simp, by simp, fun sv' eq => ?_⟩
  cases eq
  obtain ⟨⟨limit, cls, -⟩, staged, -, -, -⟩ := (serviceInRange_iff _ _).mp (range.2.2.2 sv service)
  rw [serviceInRange_iff]
  exact ⟨⟨limit, cls, Nat.zero_le _⟩, staged, by simpa using small, by simp [demandBound], fits⟩

theorem setStation_setStation (n : Slot) (st su : Station) (s : State) :
    (s.setStation n st).setStation n su = s.setStation n su := by
  simp [State.setStation, State.setRecord, State.record]

theorem enrol_tableKept {n : Slot} {st : Station} {c : Content} (here : s.station n = some st) (small : c.inRange) :
    TableKept s (s.enrol n st c) := by
  unfold State.enrol
  dsimp only
  split
  · next sv a demand trip service =>
    refine TableKept.trans ?_ (.markChanged _ _)
    split
    · next asks =>
      have least : Config.leastLimit ≤ sv.limit := by
        rw [enrolAsks, Bool.and_eq_true, decide_eq_true_iff] at asks
        exact asks.2
      rw [State.setService, State.setService, setStation_setStation]
      refine .setStation here (enrolled_follows service small ?_)
      split
      · exact ⟨rfl, least⟩
      · exact ⟨rfl, by simp⟩
    · exact .setStation here (enrolled_follows service small (enrolCondition_fits sv a.closed trip))
  · next level service =>
    have follows : st.follows { st with life := .enrolled, missed := 0, silence := none, mute := .idle } := by
      refine ⟨rfl, rfl, fun range => ?_⟩
      rw [stationInRange_iff]
      exact ⟨Nat.zero_le 3, by simp, by simp, by simp [service]⟩
    exact ((TableKept.setStation here follows).trans (.markChanged n _)).trans (.of_same rfl rfl)
  · exact .refl s

theorem takeReply_tableKept (x : Serial) (n : Slot) {c : Content} (s : State) (small : c.inRange) :
    TableKept s (s.takeReply x n c) := by
  unfold State.takeReply
  split
  · next st here =>
    split
    · split
      · exact enrol_tableKept here small
      · exact report_tableKept n s small
      · exact report_tableKept n s small
    · exact (placeMute_errandsOnly x s).tableKept
  · exact (placeMute_errandsOnly x s).tableKept

theorem makeSilent_tableKept (n : Slot) (s : State) : TableKept s (s.makeSilent n) := by
  have follows : ∀ st : Station, st.follows { st with missed := 3, silence := some 0 } := by
    refine fun st => ⟨rfl, rfl, fun range => ?_⟩
    rw [stationInRange_iff] at range ⊢
    exact ⟨le_refl 3, by simp, by simp, range.2.2.2⟩
  unfold State.makeSilent
  split
  · next st here =>
    have silent := (TableKept.setStation here (follows st)).trans (.markChanged n _)
    dsimp only
    split
    · exact silent
    · exact silent.trans (.of_same rfl rfl)
  · exact .refl s

theorem deferPush_tableKept (n : Slot) (s : State) : TableKept s (s.deferPush n) := by
  unfold State.deferPush
  split
  · next st sv here =>
    obtain ⟨station, service, -⟩ := (onLineService_iff s n st sv).mp here
    exact .setService station service id
  · exact .refl s

theorem missedReply_tableKept (n : Slot) (order : Bool) (s : State) : TableKept s (s.missedReply n order) := by
  unfold State.missedReply
  split
  · next st here =>
    split
    · have missed : TableKept s
          (if (st.silence.isNone && decide (2 ≤ st.missed)) = true then s.makeSilent n
            else s.setStation n { st with missed := min 3 (st.missed + 1) }) := by
        split
        · exact makeSilent_tableKept n s
        · next spared =>
          refine .setStation here ⟨rfl, rfl, fun range => ?_⟩
          rw [stationInRange_iff] at range ⊢
          obtain ⟨bound, silent, silence, service⟩ := range
          refine ⟨Nat.min_le_left _ _, ?_, silence, service⟩
          show st.silence.isSome = true ↔ min 3 (st.missed + 1) = 3
          cases state : st.silence <;> simp [state] at silent spared ⊢ <;> omega
      dsimp only
      split
      · exact missed.trans (deferPush_tableKept n _)
      · exact missed
    · exact .refl s
  · exact .refl s

/-! ### What is heard (R120, R123) -/

/-- Every reply that is read reports what is in range. -/
def Heard.inRange : Heard → Prop
  | .frame (.report _ c) => c.inRange
  | .frame (.take _ _ c) => c.inRange
  | .frame (.answer _) => True
  | .garbled => True
  | .absent => True

theorem reportContent_inRange {number : Byte} {bytes : List Byte} {c : Content}
    (read : reportContent number bytes = some c) : c.inRange := by
  unfold reportContent at read
  split at read
  · split_ifs at read
    · unfold serviceContent at read
      split at read
      · next _ cls _ =>
        cases read
        exact ⟨Nat.min_le_right _ _, classOf_range cls⟩
      · cases read
    · cases read
      trivial
  · cases read

theorem heardOf_inRange (framing : Bool) (bytes : List Byte) : (heardOf framing bytes).inRange := by
  unfold heardOf
  split
  · trivial
  · split
    · next r read =>
      unfold replyOf at read
      split at read
      · cases read
      · split at read
        · split at read
          · cases read; trivial
          · cases read
        · split_ifs at read
          · obtain ⟨c, content, rfl⟩ := Option.map_eq_some_iff.mp read
            exact reportContent_inRange content
          · split at read
            · obtain ⟨c, content, rfl⟩ := Option.map_eq_some_iff.mp read
              exact reportContent_inRange content
            · cases read
        · cases read
    · trivial

theorem judgeReport_inRange {n : Slot} {expect : Option Kind} {h : Heard} {c : Content} (small : h.inRange)
    (judged : judgeReport n expect h = some c) : c.inRange := by
  unfold judgeReport at judged
  split at judged
  · split at judged
    · cases judged; exact small
    · cases judged
  all_goals cases judged

theorem judgeTake_inRange {x : Serial} {n : Slot} {expect : Option Kind} {h : Heard} {c : Content} (small : h.inRange)
    (judged : judgeTake x n expect h = some c) : c.inRange := by
  unfold judgeTake at judged
  split at judged
  · split at judged
    · cases judged; exact small
    · cases judged
  all_goals cases judged

end

end Sys2Proof.Machine

/-! ## Proofs: what the measuring and the driving side leave of the station table, the account and the line -/

namespace Sys2Proof.Machine

/-- The station table, the account, the line port and the line engine. -/
def State.lineSide (s : State) : Vector Record 64 × Account × LinePort × Engine := ⟨s.table, s.account, s.port, s.engine⟩

theorem lineSide_table {s u : State} (h : u.lineSide = s.lineSide) : u.table = s.table := congrArg Prod.fst h

theorem lineSide_account {s u : State} (h : u.lineSide = s.lineSide) : u.account = s.account := congrArg (·.2.1) h

theorem lineSide_port {s u : State} (h : u.lineSide = s.lineSide) : u.port = s.port := congrArg (·.2.2.1) h

theorem lineSide_engine {s u : State} (h : u.lineSide = s.lineSide) : u.engine = s.engine := congrArg (·.2.2.2) h

@[simp] theorem raise_lineSide (a : Attn) (s : State) : (s.raise a).lineSide = s.lineSide := by simp [State.lineSide]

@[simp] theorem raiseIf_lineSide (c : Bool) (a : Attn) (s : State) : (s.raiseIf c a).lineSide = s.lineSide := by
  cases c with
  | false => rfl
  | true => exact raise_lineSide a s

@[simp] theorem raiseAll_lineSide (l : List Attn) (s : State) : (s.raiseAll l).lineSide = s.lineSide :=
  foldl_keeps _ _ _ _ fun t a => raise_lineSide a t

section
variable {s u : State}

theorem GovernorPart.lineSide (part : GovernorPart s u) : u.lineSide = s.lineSide := by
  cases part with
  | bankFailedOpen k =>
    simp only [State.bankFailedOpen]
    split
    · exact raise_lineSide _ _
    · rfl
  | bankFailedStuck k =>
    simp only [State.bankFailedStuck]
    split
    · split
      · exact raise_lineSide _ _
      · exact raise_lineSide _ _
      · rw [raise_lineSide]; exact raise_lineSide _ _
      · rfl
      · rfl
    · rfl
  | checkExhausted =>
    unfold State.checkExhausted
    split
    · split
      · exact raise_lineSide _ _
      · rfl
    · rfl
  | _ => rfl

theorem trimDecision_lineSide (s : State) : s.trimDecision.lineSide = s.lineSide := by
  unfold State.trimDecision
  split_ifs <;> rfl

theorem GatePart.lineSide (part : GatePart s u) : u.lineSide = s.lineSide := by
  cases part with
  | endSwitch sw active =>
    unfold State.endSwitch
    dsimp only
    split_ifs
    · rfl
    · exact raise_lineSide _ _
    · rfl
  | jam =>
    unfold State.jamExpiry
    split
    · exact raise_lineSide _ _
    · rfl
  | trim => exact trimDecision_lineSide s
  | _ => rfl

/-- An event's bare part is one of the line, or leaves the whole line side. -/
theorem BarePart.lineSide (part : BarePart s u) : BareLinePart s u ∨ u.lineSide = s.lineSide := by
  cases part with
  | line part => exact .inl part
  | governor part => exact .inr part.lineSide
  | gate part => exact .inr part.lineSide
  | silence =>
    refine .inr ?_
    unfold State.silenceOver
    split
    · rfl
    · exact raise_lineSide _ _
  | stuck =>
    refine .inr ?_
    unfold State.stuckOver
    split
    · exact raise_lineSide _ _
    · rfl
  | clearAttn mask => exact .inr (by simp [State.lineSide])
  | _ => exact .inr rfl

/-! ### The receivers of a completion -/

theorem governorTake_lineSide (prev : Vector Bool 8) (sense : BitVec 8) (c : Completion) (s : State) :
    (s.governorTake prev sense c).lineSide = s.lineSide := raiseAll_lineSide _ _

theorem positionerTake_lineSide (s : State) : s.positionerTake.lineSide = s.lineSide := by
  unfold State.positionerTake
  split
  · exact trimDecision_lineSide _
  · rfl

theorem tripOnset_lineSide (s : State) : s.tripOnset.lineSide = s.lineSide := by
  rw [State.tripOnset, raise_lineSide]
  exact raiseAll_lineSide _ _

/-! ### The saw's rows -/

theorem unreleased_lineSide (s : State) : s.unreleased.lineSide = s.lineSide := raise_lineSide _ _

theorem debounceOver_lineSide (s : State) : s.debounceOver.lineSide = s.lineSide := by
  unfold State.debounceOver
  split
  · rfl
  · dsimp only
    split_ifs
    · rfl
    · unfold State.engageEdge
      dsimp only
      split
      · rfl
      · rw [unreleased_lineSide]; rfl
      · rw [unreleased_lineSide]; rfl
      · rw [unreleased_lineSide]; rfl
      all_goals rfl
    · unfold State.disengageEdge
      dsimp only
      split
      · rfl
      · rfl
      · rw [raise_lineSide]; rfl
      all_goals rfl

theorem sawGivesUp_lineSide (e : SawEvent) (s : State) : (s.sawGivesUp e).lineSide = s.lineSide := raise_lineSide _ _

theorem waitingOver_lineSide (s : State) : s.waitingOver.lineSide = s.lineSide := by
  unfold State.waitingOver
  split
  · exact sawGivesUp_lineSide _ s
  · rfl

theorem preparingOver_lineSide (s : State) : s.preparingOver.lineSide = s.lineSide := by
  unfold State.preparingOver
  split
  · exact sawGivesUp_lineSide _ s
  · rfl

theorem idleOver_lineSide (s : State) : s.idleOver.lineSide = s.lineSide := by
  unfold State.idleOver
  split <;> rfl

theorem sawShedOrder_lineSide (s : State) : s.sawShedOrder.lineSide = s.lineSide := by
  unfold State.sawShedOrder
  split
  · exact raise_lineSide _ _
  · rfl

theorem recheckSaw_lineSide (s : State) : s.recheckSaw.lineSide = s.lineSide := by
  unfold State.recheckSaw
  split
  · split <;> rfl
  · rfl

/-- The rows of the saw and a grant, a stop or a refusal of its permit. -/
inductive SawPart (s : State) : State → Prop
  | debounceOver : SawPart s s.debounceOver
  | waitingOver : SawPart s s.waitingOver
  | preparingOver : SawPart s s.preparingOver
  | idleOver : SawPart s s.idleOver
  | sawGrant (d : Nat) (idle : s.saw.state = .idle) (least : 100 ≤ d) (most : d ≤ 4000) :
      SawPart s { s with saw := s.saw.grant d }
  | sawStop : SawPart s { s with saw := s.saw.withdraw }

theorem SawPart.lineSide (part : SawPart s u) : u.lineSide = s.lineSide := by
  cases part with
  | debounceOver => exact debounceOver_lineSide s
  | waitingOver => exact waitingOver_lineSide s
  | preparingOver => exact preparingOver_lineSide s
  | idleOver => exact idleOver_lineSide s
  | sawGrant d => rfl
  | sawStop => rfl

/-! ### The end of an event -/

theorem levelEvent_lineSide (before s : State) : (State.levelEvent before s).lineSide = s.lineSide := raiseIf_lineSide _ _ _

theorem ceilingChange_lineSide (before s : State) : (State.ceilingChange before s).lineSide = s.lineSide := by
  unfold State.ceilingChange
  split <;> rfl

/-- The hand-over of the water plan leaves the line side. -/
theorem handOver_lineSide (before s : State) :
    (State.ceilingChange before (State.levelEvent before s)).lineSide = s.lineSide :=
  (ceilingChange_lineSide _ _).trans (levelEvent_lineSide _ _)

theorem endReset_lineSide (s : State) (k : ResetKind) (nomsel shut full engaged : Bool) :
    (s.endReset k nomsel shut full engaged).lineSide =
      ⟨s.table, { s.account with tick := some Config.restoreTime }, s.port, s.engine⟩ := raiseIf_lineSide _ _ _

end

end Sys2Proof.Machine

/-! ## Proofs: every step keeps the station table sound -/

namespace Sys2Proof.Machine

theorem TableKept.of_lineSide {s u : State} (h : u.lineSide = s.lineSide) : TableKept s u :=
  .of_same (lineSide_table h) (congrArg Engine.strays (lineSide_engine h))

section
variable {s u : State}

/-! ### The account's operations -/

theorem sawShedOrder_tableKept (s : State) : TableKept s s.sawShedOrder := .of_lineSide (sawShedOrder_lineSide s)

theorem curtailRecord_tableKept (c : Nat) (s : State) (n : Slot) : TableKept s (s.curtailRecord c n) := by
  unfold State.curtailRecord
  split
  · split
    · exact shedRequest_tableKept false n s
    · exact .refl s
  · exact .refl s

theorem curtailClass_tableKept (c : Nat) (s : State) : TableKept s (s.curtailClass c) := by
  have records : TableKept s (slots.foldl (State.curtailRecord c) s) := .foldl _ (curtailRecord_tableKept c) _ _
  rw [curtailClass_eq]
  split
  · exact records.trans (sawShedOrder_tableKept _)
  · exact records

theorem markUnresolvable_tableKept (s : State) : TableKept s s.markUnresolvable := by
  unfold State.markUnresolvable
  split
  · exact .refl s
  · exact .raised rfl rfl

theorem curtail_tableKept (s : State) : TableKept s s.curtail := by
  have classes : TableKept s ([3, 2, 1].foldl (fun t c => if t.short then t.curtailClass c else t) s) := by
    refine .foldl _ (fun t c => ?_) _ _
    split
    · exact curtailClass_tableKept c t
    · exact .refl t
  unfold State.curtail
  dsimp only
  split
  · exact classes.trans (markUnresolvable_tableKept _)
  · exact classes

theorem toBalanced_tableKept (s : State) : TableKept s s.toBalanced := .of_same rfl rfl

theorem enterOver_tableKept (s : State) : TableKept s s.enterOver :=
  (curtail_tableKept _).from_same (State.raise_table _ _) (by simp)

theorem rederive_tableKept (s : State) : TableKept s s.rederive := by
  unfold State.rederive
  split
  · split
    · exact .refl s
    · dsimp only
      split
      · exact enterOver_tableKept s
      · exact (enterOver_tableKept s).trans (toBalanced_tableKept _)
  · split
    · exact toBalanced_tableKept s
    · exact .refl s

theorem applyDone_tableKept (s : State) : TableKept s s.applyDone := by
  unfold State.applyDone
  split
  · split
    · exact .raised rfl rfl
    · exact .refl s
  · exact .refl s

theorem examineApply_tableKept (s : State) : TableKept s s.examineApply := by
  unfold State.examineApply
  split
  · exact (applyDone_tableKept _).from_same rfl rfl
  · exact .refl s

/-- R103: the Service fields of a record taken by an Apply are in range. -/
theorem applyPlan_inRange {st : Station} {sv : Service} {p : Staged} (s : State) (service : st.service = some sv)
    (staged : sv.staged = some p) (range : sv.inRange st.life = true) : (s.applyPlan st sv p).1.inRange st.life = true := by
  obtain ⟨⟨limit, cls, live⟩, plan, ack, demand, fits⟩ := (serviceInRange_iff _ _).mp range
  have small := plan p staged
  have copied : sv.condition.fits st.life p.limit →
      Service.inRange st.life { sv with limit := p.limit, cls := p.cls, staged := none } = true := fun fits =>
    (serviceInRange_iff _ _).mpr ⟨⟨small.1, small.2, live⟩, by simp, ack, demand, fits⟩
  have moved : (sv.condition = .connected → Config.leastLimit ≤ p.limit) → sv.condition.fits st.life p.limit := fun least => by
    cases condition : sv.condition with
    | connected =>
      rw [condition] at fits
      exact ⟨fits.1, least condition⟩
    | _ =>
      rw [condition] at fits
      exact fits
  have closed : st.targetClosed = true ↔ sv.condition = .connected ∧ st.life = .enrolled := by
    simp [Station.targetClosed, service]
  unfold State.applyPlan
  dsimp only
  split_ifs with opened lowers least admitted
  · refine copied (moved fun connected => ?_)
    rw [connected] at fits
    rw [Bool.not_eq_true', ← Bool.not_eq_true, closed] at opened
    exact absurd ⟨connected, fits.1⟩ opened
  · exact (serviceInRange_iff _ _).mpr ⟨⟨small.1, small.2, live⟩, by simp, ack, demand, trivial⟩
  · exact copied (moved fun _ => Nat.le_of_not_lt least)
  · refine copied (moved fun connected => ?_)
    rw [connected] at fits
    exact le_trans fits.2 (by omega)
  · refine (serviceInRange_iff _ _).mpr ⟨⟨limit, small.2, live⟩, ?_, ack, demand, fits⟩
    simpa using small

theorem applySlot_tableKept (sc : Scope) (acc : State × List Slot × Nat) (n : Slot) :
    TableKept acc.1 (applySlot sc acc n).1 := by
  unfold applySlot
  dsimp only
  split
  · exact .refl _
  · next st here =>
    split
    · exact .refl _
    · next sv service =>
      split
      · exact .refl _
      · next p staged =>
        split
        · have taken := TableKept.setService here service (applyPlan_inRange acc.1 service staged)
          dsimp only
          split
          · exact taken.trans (.markChanged n _)
          · exact taken
        · exact .refl _

theorem applyAll_tableKept (sc : Scope) (s : State) : TableKept s (s.applyAll sc).1 := by
  have all : ∀ (l : List Slot) (acc : State × List Slot × Nat), TableKept acc.1 (l.foldl (applySlot sc) acc).1 := by
    intro l
    induction l with
    | nil => exact fun acc => .refl acc.1
    | cons n l ih => exact fun acc => (applySlot_tableKept sc acc n).trans (ih _)
  show TableKept s (slots.foldl (applySlot sc) (s, [], 0)).1
  exact all slots (s, [], 0)

theorem startApply_tableKept (scope : Byte) (sc : Scope) (s : State) : TableKept s (s.startApply scope sc).1 := by
  have all := applyAll_tableKept sc s
  rw [startApply_fst]
  generalize s.applyAll sc = r at all ⊢
  split
  · exact all
  · exact all.trans (.of_same rfl rfl)

theorem recloseBranch_tableKept {t : State} (taken : s.recloseBranch = some t) : TableKept s t := by
  unfold State.recloseBranch at taken
  split at taken
  · cases taken
  · split at taken
    · cases taken
    · split_ifs at taken <;> cases taken <;> exact reclose_tableKept _ s

theorem frequencyBranch_tableKept {t : State} (taken : s.frequencyBranch = some t) : TableKept s t := by
  unfold State.frequencyBranch at taken
  split at taken
  · split at taken
    · cases taken
    · cases taken; exact frequencyRestore_tableKept _ _ s
  · cases taken

theorem capacityBranch_tableKept {t : State} (taken : s.capacityBranch = some t) : TableKept s t := by
  unfold State.capacityBranch at taken
  split at taken
  · cases taken
  · split at taken
    · cases taken
    · split_ifs at taken <;> cases taken <;> exact capacityRestore_tableKept _ s

theorem restoreAction_tableKept (s : State) : TableKept s s.restoreAction := by
  unfold State.restoreAction
  split
  · next taken => exact recloseBranch_tableKept taken
  · split
    · next taken => exact frequencyBranch_tableKept taken
    · split
      · next taken => exact capacityBranch_tableKept taken
      · exact .refl s

theorem restoreTick_tableKept (s : State) : TableKept s s.restoreTick := by
  have passed : ∀ t : State, TableKept t t.rederive.restoreAction.rederive.recheckSaw := fun t =>
    (((rederive_tableKept t).trans (restoreAction_tableKept _)).trans (rederive_tableKept _)).trans
      (.of_lineSide (recheckSaw_lineSide _))
  unfold State.restoreTick
  dsimp only
  split
  · exact ((curtail_tableKept _).trans (passed _)).from_same rfl rfl
  · exact (passed _).from_same rfl rfl

/-! ### The shed step and a completion -/

theorem frequencyShed_tableKept (c : Nat) (s : State) : TableKept s (s.frequencyShed c) := by
  have placed : TableKept s (s.shedPlaced c) :=
    (TableKept.foldl (fun t (x : Slot × Service) => t.shedRequest true x.1) (fun t x => shedRequest_tableKept true x.1 t) _ s).trans
      (.of_same rfl rfl)
  rw [frequencyShed_eq]
  dsimp only
  split
  · exact (placed.trans (sawShedOrder_tableKept _)).trans (.of_same rfl rfl)
  · exact placed.trans (.of_same rfl rfl)

theorem shedStep_tableKept (s : State) : TableKept s s.shedStep := by
  unfold State.shedStep
  split
  · exact (TableKept.raised (a := .deficit) rfl rfl).trans (.of_same rfl rfl)
  · split
    · exact (frequencyShed_tableKept _ s).trans (.of_same rfl rfl)
    · exact (TableKept.raised (a := .underfreq) rfl rfl).trans (.of_same rfl rfl)

theorem countUf_tableKept (under : Bool) (s : State) : TableKept s (s.countUf under) := by
  cases trip : s.prot.trip with
  | true => rw [countUf_of_trip under s trip]; exact .refl s
  | false =>
    rw [countUf_eq under s trip]
    dsimp only
    generalize (if under = true then min 3 (s.prot.uf + 1) else 0) = n
    split
    · exact (shedStep_tableKept _).from_same rfl rfl
    · exact .of_same rfl rfl

theorem protectionTake_tableKept (c : Completion) (s : State) : TableKept s (s.protectionTake c) := by
  unfold State.protectionTake
  dsimp only
  split
  · exact (TableKept.of_lineSide (tripOnset_lineSide _)).from_same rfl rfl
  · exact (countUf_tableKept _ _).from_same rfl rfl

theorem complete_tableKept (sense : BitVec 8) (c : Completion) (s : State) : TableKept s (s.complete sense c) :=
  complete_keeps (TableKept s) sense c (fun _ _ h => h.trans (.of_same rfl rfl))
    (fun t prev h => h.trans (.of_lineSide (governorTake_lineSide prev sense c t)))
    (fun t h => h.trans (.of_lineSide (positionerTake_lineSide t))) (fun _ h => h.trans (.of_same rfl rfl))
    (fun t h => h.trans (protectionTake_tableKept c t)) (.refl s)

/-! ### Turns -/

theorem pushPrefixes_tableKept (p : Prefix) (l : List Prefix) (s : State) : TableKept s (s.pushPrefixes p l) := by
  unfold State.pushPrefixes
  split
  · exact .refl s
  · exact .of_same rfl rfl

theorem abandon_tableKept (x : Serial) (n : Slot) (s : State) : TableKept s (s.abandon x n) :=
  (placeFreed_errandsOnly _).tableKept.from_same (State.raise_table _ _) (by simp [Engine.dropAssign])

theorem assignMissed_tableKept (x : Serial) (n : Slot) (s : State) : TableKept s (s.assignMissed x n) := by
  unfold State.assignMissed
  split
  · split
    · exact .of_same rfl rfl
    · exact abandon_tableKept x n s
  · exact .refl s

theorem assignTaken_tableKept (x : Serial) (n : Slot) {c : Content} (s : State) (small : c.inRange) :
    TableKept s (s.assignTaken x n c) := by
  unfold State.assignTaken
  split
  · exact ((takeReply_tableKept x n _ small).trans (placeFreed_errandsOnly _).tableKept).from_same rfl rfl
  · exact takeReply_tableKept x n s small

theorem vacate_tableKept (n : Slot) (s : State) : TableKept s (s.vacate n) := by
  unfold State.vacate
  split
  · exact .refl s
  · dsimp only
    split
    · exact .setRecord_vacant n _ s
    · exact (TableKept.setRecord_vacant n _ s).trans (.of_same rfl rfl)

theorem muteSent_tableKept (x : Serial) (s : State) : TableKept s (s.muteSent x) := by
  unfold State.muteSent
  split
  · split
    · split
      · exact (vacate_tableKept _ s).trans (.markChanged _ _)
      · exact .refl s
    · exact .refl s
  · exact .refl s

theorem sent_tableKept (m : Message) (s : State) : TableKept s (s.sent m) := by
  cases m with
  | mute x => exact muteSent_tableKept x s
  | _ => exact .of_same rfl rfl

theorem handSent_tableKept (s : State) : TableKept s s.handSent := by
  unfold State.handSent
  split
  · split
    · exact .refl s
    · exact sent_tableKept _ s
  · exact .refl s

theorem endIfDone_tableKept (s : State) : TableKept s s.endIfDone := by
  unfold State.endIfDone
  split
  · split
    · exact (TableKept.raiseIf _ _ _).from_same rfl rfl
    · exact .refl s
  · exact .refl s
  · exact .refl s

theorem holder_none {x : Serial} (free : s.holder x = none) : ∀ n st, s.station n = some st → st.serial ≠ x := by
  intro n st here same
  have all := List.find?_eq_none.mp free n (List.mem_finRange n)
  rw [here] at all
  exact all (decide_eq_true same)

/-- R70: a serial that no record holds joins the strays. -/
theorem addStray_sound {x : Serial} (free : s.holder x = none) {f : Engine → Engine}
    (strays : (f s.engine).strays = s.engine.strays ++ [x]) (sound : s.tableSound) : (s.withEngine f).tableSound := by
  obtain ⟨range, serials, listed, gauges⟩ := sound
  refine ⟨range, serials, fun n st here stray => ?_, gauges⟩
  rw [State.withEngine_engine, strays, List.mem_append, List.mem_singleton] at stray
  exact stray.elim (listed n st here) (holder_none free n st here)

theorem cleanSerial_sound (p : Prefix) (x : Serial) (sound : s.tableSound) : (s.cleanSerial p x).tableSound := by
  have same : ∀ {f : Engine → Engine}, (f s.engine).strays = s.engine.strays → (s.withEngine f).tableSound := fun strays =>
    (TableKept.withEngine s strays).sound sound
  unfold State.cleanSerial
  dsimp only
  split
  · split
    · exact sound
    · split_ifs
      · exact same rfl
      · exact same rfl
      · exact (pushPrefixes_tableKept _ _ s).sound sound
      · exact (TableKept.of_same rfl rfl).sound sound
      · exact (TableKept.of_same rfl rfl).sound sound
  · next free =>
    split_ifs
    · exact same rfl
    · exact (TableKept.of_same rfl rfl).sound sound
    · exact (pushPrefixes_tableKept _ _ s).sound sound
    · exact (pushPrefixes_tableKept _ _ s).sound sound
    · exact (TableKept.raise _ _).sound (addStray_sound (f := fun e => { (Engine.replaceErrand (.mute x)
        { e with strays := e.strays ++ [x] }) with counts := { e.counts with strays := bump e.counts.strays } }) free rfl sound)
    · exact (TableKept.raise _ _).sound (addStray_sound (f := fun e => { (Engine.addErrand (.mute x)
        { e with strays := e.strays ++ [x] }) with counts := { e.counts with strays := bump e.counts.strays } }) free rfl sound)
    · exact (TableKept.raised rfl rfl).sound sound

theorem rollClass_sound (p : Prefix) (c : RollClass) (sound : s.tableSound) : (s.rollClass p c).tableSound := by
  cases c with
  | silence => exact sound
  | clean x => exact cleanSerial_sound p x sound
  | collision =>
    simp only [State.rollClass]
    split
    · unfold State.splitPrefix
      split
      · exact (pushPrefixes_tableKept _ _ s).sound sound
      · exact sound
    · exact (TableKept.raised rfl rfl).sound sound

theorem outcome_sound (t : Turn) {h : Heard} (small : h.inRange) (sound : s.tableSound) : (s.outcome t h).tableSound := by
  unfold State.outcome
  split
  · split
    · next judged =>
      exact ((report_tableKept _ s (judgeReport_inRange small judged)).trans (.of_same rfl rfl)).sound sound
    · exact (missedReply_tableKept _ _ s).sound sound
  · split
    · next n sent _ _ c judged =>
      have reported := report_tableKept n s (judgeReport_inRange small judged)
      dsimp only
      split
      · refine (reported.trans (.withEngine _ ?_)).sound sound
        unfold Engine.joinHold
        split <;> rfl
      · exact reported.sound sound
    · exact (missedReply_tableKept _ _ s).sound sound
  · split
    · next judged => exact (assignTaken_tableKept _ _ s (judgeTake_inRange small judged)).sound sound
    · exact (assignMissed_tableKept _ _ s).sound sound
  · exact (endIfDone_tableKept _).sound (rollClass_sound _ _ sound)
  all_goals exact sound

theorem handOutcome_sound {h : Heard} (small : h.inRange) (sound : s.tableSound) : (s.handOutcome h).tableSound := by
  unfold State.handOutcome
  split
  · split
    · exact sound
    · exact outcome_sound _ small sound
  · exact sound

/-! ### The parts of the line -/

theorem retire_tableKept {n : Slot} {st : Station} (here : s.station n = some st) : TableKept s (s.retire n st) := by
  unfold State.retire
  split
  · next sv service =>
    have follows : st.follows { st with life := .retiring, mute := .idle, service := some sv.retired } := by
      refine ⟨rfl, by simp [Station.kind, service], fun range => ?_⟩
      rw [stationInRange_iff] at range ⊢
      obtain ⟨missed, silent, silence, inRange⟩ := range
      refine ⟨missed, silent, silence, fun sv' eq => ?_⟩
      cases eq
      obtain ⟨⟨-, cls, live⟩, -, ack, demand, -⟩ := (serviceInRange_iff _ _).mp (inRange sv service)
      exact (serviceInRange_iff _ _).mpr ⟨⟨Nat.zero_le _, cls, live⟩, by simp [Service.retired], ack, demand, trivial⟩
    exact (TableKept.setStation here follows).trans (readyTest_errandsOnly n _).tableKept
  · next gauge =>
    have follows : st.follows { st with life := .retiring } := by
      refine ⟨rfl, rfl, fun range => ?_⟩
      rw [stationInRange_iff] at range ⊢
      obtain ⟨missed, silent, silence, -⟩ := range
      exact ⟨missed, silent, silence, by simp [gauge]⟩
    exact (TableKept.setStation here follows).trans (wantMute_errandsOnly n _).tableKept

theorem linkSilent_tableKept (n : Slot) (s : State) : TableKept s (s.linkSilent n) := by
  unfold State.linkSilent
  split
  · split
    · exact makeSilent_tableKept n s
    · exact .refl s
  · exact .refl s

theorem silenceLimit_tableKept (n : Slot) (s : State) : TableKept s (s.silenceLimit n) := by
  unfold State.silenceLimit
  split
  · next st here =>
    split
    · next silent =>
      refine .setStation here ⟨rfl, rfl, fun range => ?_⟩
      rw [Bool.and_eq_true] at silent
      rw [stationInRange_iff] at range ⊢
      obtain ⟨missed, three, -, service⟩ := range
      exact ⟨missed, ⟨fun _ => three.mp silent.2, fun _ => rfl⟩, by simp, service⟩
    · exact .refl s
  · exact .refl s

theorem recloseDue_tableKept (n : Slot) (s : State) : TableKept s (s.recloseDue n) := by
  unfold State.recloseDue
  split
  · next here =>
    split
    · exact setCondition_tableKept (onLine_of_enrolled here) fun _ =>
        ⟨((enrolledService_iff s _ _ _).mp here).2.2, by simp⟩
    · exact .refl s
  · exact .refl s

theorem liveLimit_tableKept (n : Slot) (s : State) : TableKept s (s.liveLimit n) := by
  unfold State.liveLimit
  split
  · next st sv here =>
    obtain ⟨station, service, -⟩ := (onLineService_iff s n st sv).mp here
    split
    · refine .setService station service fun range => ?_
      rw [serviceInRange_iff] at range ⊢
      obtain ⟨⟨limit, cls, -⟩, staged, ack, demand, fits⟩ := range
      exact ⟨⟨limit, cls, le_refl _⟩, staged, ack, demand, fits⟩
    · exact .refl s
  · exact .refl s

/-- R138: the engine as the completion of a stop leaves it, before the errands of Wanted records. -/
def Engine.afterStop (e : Engine) : Engine :=
  { e.stopEnrolment with
    cursor := 0, lastRoll := false, errands := e.errands.filter Errand.kept, sheds := [], hold := [], stopping := false }

theorem completeStop_eq (s : State) : s.completeStop = (s.unqueueMutes.withEngine Engine.afterStop).placeAllWanted := rfl

theorem afterStop_strays (e : Engine) : e.afterStop.strays = e.strays := by
  show e.stopEnrolment.strays = e.strays
  unfold Engine.stopEnrolment
  split
  · rfl
  · split <;> rfl

theorem completeStop_tableKept (s : State) : TableKept s s.completeStop := by
  rw [completeStop_eq]
  have unqueued := (unqueueMutes_errandsOnly s).tableKept
  have stopped := TableKept.withEngine s.unqueueMutes (afterStop_strays _)
  exact (unqueued.trans stopped).trans (placeAllWanted_errandsOnly _).tableKept

/-- R79, R81: a record becomes Connected. -/
theorem connected_tableKept {n : Slot} {st : Station} {sv : Service} {count : Bool}
    (here : s.enrolledService n = some (st, sv)) (least : Config.leastLimit ≤ sv.limit) :
    TableKept s (s.setService n st { sv with condition := .connected, tripCount := count }) := by
  obtain ⟨station, service, life⟩ := (enrolledService_iff s n st sv).mp here
  refine .setService station service fun range => ?_
  rw [serviceInRange_iff] at range ⊢
  obtain ⟨fields, staged, ack, demand, -⟩ := range
  exact ⟨fields, staged, ack, demand, life, least⟩

theorem edit_tableKept {n : Slot} {st : Station} {sv : Service} {p : Staged} (here : s.station n = some st)
    (service : st.service = some sv) (limit : p.limit ≤ 2000) (cls : p.cls ≤ 3) :
    TableKept s (s.setService n st { sv with staged := some p }) := by
  refine .setService here service fun range => ?_
  rw [serviceInRange_iff] at range ⊢
  obtain ⟨fields, -, ack, demand, fits⟩ := range
  exact ⟨fields, by simpa using ⟨limit, cls⟩, ack, demand, fits⟩

theorem BareLinePart.tableKept (part : BareLinePart s u) : TableKept s u := by
  cases part with
  | edit n st sv p here service limit cls => exact edit_tableKept here service limit cls
  | recloseDue n => exact recloseDue_tableKept n s
  | liveLimit n => exact liveLimit_tableKept n s
  | unmark n => exact .setChanged n false s
  | applyDone => exact applyDone_tableKept s
  | turn => exact (chooseTurn_queuesOnly s).tableKept
  | dropStray x => exact ⟨fun n later here => ⟨later, here, later.follows_rfl⟩, fun y h => List.mem_of_mem_filter h⟩
  | startBit char bad => exact .of_same rfl rfl

/-! #### PROVISION (R77) -/

theorem gaugeSlot_none (free : s.gaugeSlot = none) : ∀ n st, s.station n = some st → st.kind ≠ .gauge := by
  intro n st here same
  have all := List.find?_eq_none.mp free n (List.mem_finRange n)
  rw [here] at all
  exact all (decide_eq_true same)

theorem claim_strays (x : Serial) (n : Slot) (e : Engine) :
    (e.claim x n).strays = e.strays.filter (fun y => decide (y ≠ x)) := by
  unfold Engine.claim
  dsimp only
  split <;> rfl

theorem provisioned_inRange (kind : Kind) (x : Serial) {cls limit : Nat} (connect : Bool) (c : cls ≤ 3) (l : limit ≤ 2000)
    {st : Station} (here : (provisioned kind x cls limit connect).station = some st) :
    st.inRange = true ∧ st.serial = x ∧ st.kind = kind := by
  cases here
  refine ⟨?_, rfl, ?_⟩
  · rw [stationInRange_iff]
    refine ⟨Nat.zero_le 3, by simp, by simp, fun sv eq => ?_⟩
    cases kind with
    | gauge => cases eq
    | service =>
      cases eq
      rw [serviceInRange_iff]
      exact ⟨⟨l, c, Nat.zero_le _⟩, by simp, by simp, by simp, trivial⟩
  · cases kind <;> rfl

/-- R77: what PROVISION leaves of the table and of the strays. -/
theorem provision_table (n : Slot) (kind : Kind) (x : Serial) (cls limit : Nat) (connect : Bool) (s : State) :
    (s.provision n kind x cls limit connect).table = s.table.set n (provisioned kind x cls limit connect) ∧
      (s.provision n kind x cls limit connect).engine.strays = s.engine.strays.filter (fun y => decide (y ≠ x)) := by
  have unlisted : s.engine.strays.contains x = false → s.engine.strays.filter (fun y => decide (y ≠ x)) = s.engine.strays := by
    intro absent
    refine List.filter_eq_self.mpr fun y h => decide_eq_true fun same => ?_
    rw [← same, List.contains_eq_mem, decide_eq_false_iff_not] at absent
    exact absent h
  unfold State.provision
  dsimp only
  cases listed : s.engine.strays.contains x with
  | true => cases kind <;> exact ⟨rfl, claim_strays x n s.engine⟩
  | false => cases kind <;> exact ⟨rfl, (unlisted listed).symm⟩

theorem provision_sound {n : Slot} {kind : Kind} {x : Serial} {cls limit : Nat} (connect : Bool)
    (fresh : s.duplicates kind x = false) (c : cls ≤ 3) (l : limit ≤ 2000) (sound : s.tableSound) :
    (s.provision n kind x cls limit connect).tableSound := by
  obtain ⟨range, serials, listed, gauges⟩ := sound
  rw [State.duplicates, Bool.or_eq_false_iff, Option.isSome_eq_false_iff, Option.isNone_iff_eq_none] at fresh
  obtain ⟨table, strays⟩ := provision_table n kind x cls limit connect s
  have unheld := holder_none fresh.1
  have noGauge : kind = .gauge → ∀ m st, s.station m = some st → st.kind ≠ .gauge := fun gauge =>
    gaugeSlot_none (by simpa [gauge] using fresh.2)
  have cases_of : ∀ m st, (s.provision n kind x cls limit connect).station m = some st →
      (m = n ∧ st.inRange = true ∧ st.serial = x ∧ st.kind = kind) ∨ (m ≠ n ∧ s.station m = some st) := by
    intro m st here
    have there : (s.setRecord n (provisioned kind x cls limit connect)).station m = some st := by
      rw [State.station, State.record, table] at here
      exact here
    by_cases same : n = m
    · subst same
      rw [station_setRecord_self] at there
      exact .inl ⟨rfl, provisioned_inRange kind x connect c l there⟩
    · rw [station_setRecord_ne _ _ _ _ same] at there
      exact .inr ⟨Ne.symm same, there⟩
  refine ⟨fun m st here => ?_, fun m k st su here there same => ?_, fun m st here stray => ?_,
    fun m k st su here there g g' => ?_⟩
  · rcases cases_of m st here with ⟨-, inRange, -⟩ | ⟨-, old⟩
    · exact inRange
    · exact range m st old
  · rcases cases_of m st here with ⟨rfl, -, sx, -⟩ | ⟨-, old⟩ <;> rcases cases_of k su there with ⟨rfl, -, sx', -⟩ | ⟨-, old'⟩
    · rfl
    · exact absurd (same.symm.trans sx) (unheld k su old')
    · exact absurd (same.trans sx') (unheld m st old)
    · exact serials m k st su old old' same
  · rw [strays, List.mem_filter, decide_eq_true_iff] at stray
    rcases cases_of m st here with ⟨-, -, sx, -⟩ | ⟨-, old⟩
    · exact stray.2 sx
    · exact listed m st old stray.1
  · rcases cases_of m st here with ⟨rfl, -, -, k1⟩ | ⟨-, old⟩ <;> rcases cases_of k su there with ⟨rfl, -, -, k2⟩ | ⟨-, old'⟩
    · rfl
    · exact absurd g' (noGauge (k1.symm.trans g) k su old')
    · exact absurd g (noGauge (k2.symm.trans g') m st old)
    · exact gauges m k st su old old' g g'

theorem LinePart.table_sound (part : LinePart s u) (sound : s.tableSound) : u.tableSound := by
  cases part with
  | nothing => exact sound
  | provision n kind x cls limit connect vacant fresh room c l => exact provision_sound connect fresh c l sound
  | close n st sv here least => exact (connected_tableKept here least).sound sound
  | release n st sv here least => exact (connected_tableKept here least).sound sound
  | opened n st sv here => exact (setCondition_tableKept (c := .off) here fun _ => trivial).sound sound
  | vacate n => exact (vacate_tableKept n s).sound sound
  | retire n st here => exact (retire_tableKept here).sound sound
  | linkSilent n => exact (linkSilent_tableKept n s).sound sound
  | silenceLimit n => exact (silenceLimit_tableKept n s).sound sound
  | apply scope sc free => exact (startApply_tableKept scope sc s).sound sound
  | transmissionOver =>
    unfold State.transmissionOver
    split
    · split
      · exact sound
      · exact (handSent_tableKept _).sound sound
    · exact sound
  | windowOver =>
    unfold State.windowOver
    split
    · exact handOutcome_sound trivial sound
    · exact sound
  | replyOver =>
    unfold State.replyOver
    split
    · exact handOutcome_sound (heardOf_inRange _ _) sound
    · exact sound
  | replyTooLong =>
    unfold State.replyTooLong
    split
    · exact handOutcome_sound trivial sound
    · exact sound
  | turnOver =>
    unfold State.turnOver
    split
    · dsimp only
      split
      · exact (completeStop_tableKept _).sound sound
      · exact sound
    · exact sound
  | lineStart =>
    refine (TableKept.withEngine s ?_).sound sound
    show (Engine.restart s.engine).strays = s.engine.strays
    unfold Engine.restart
    split <;> rfl
  | lineStop =>
    unfold State.stopLine
    split
    · exact (completeStop_tableKept _).sound sound
    · exact sound
  | stopCompletes => exact (completeStop_tableKept s).sound sound
  | abandon x =>
    unfold State.abandonSerial
    split
    · exact (abandon_tableKept _ _ s).sound sound
    · exact sound
  | enrolStop =>
    refine (TableKept.withEngine s ?_).sound sound
    unfold Engine.stopEnrol
    split <;> rfl
  | autoEnrol =>
    unfold State.autoEnrol
    split <;> exact sound
  | planLoad bands range => exact (TableKept.raised rfl rfl).sound sound
  | _ => exact sound

/-! ### Every step -/

theorem emptyTable_sound (table : s.table = Vector.replicate 64 Record.vacant) : s.tableSound := by
  have vacant : ∀ n, s.station n = none := fun n => by simp [State.station, State.record, table, Record.vacant]
  simp [State.tableSound, vacant]

theorem SettledPart.table_sound (part : SettledPart s u) (sound : s.tableSound) : u.tableSound := by
  have saw : SawPart s u → u.tableSound := fun part => (TableKept.of_lineSide part.lineSide).sound sound
  cases part with
  | line part => exact part.table_sound sound
  | complete sense c least most => exact (complete_tableKept sense c s).sound sound
  | slowPeriod => exact ((countUf_tableKept true _).from_same rfl rfl).sound sound
  | restoreTick => exact (restoreTick_tableKept s).sound sound
  | debounceOver => exact saw .debounceOver
  | waitingOver => exact saw .waitingOver
  | preparingOver => exact saw .preparingOver
  | idleOver => exact saw .idleOver
  | sawGrant d idle least most => exact saw (.sawGrant d idle least most)
  | sawStop => exact saw .sawStop
  | shedStep => exact (shedStep_tableKept s).sound sound
  | supplyReset => exact emptyTable_sound (State.clearAttn_table _ _)

theorem BarePart.tableKept (part : BarePart s u) : TableKept s u := part.lineSide.elim (·.tableKept) .of_lineSide

theorem autoEnrol_tableKept (s : State) : TableKept s s.autoEnrol := by
  unfold State.autoEnrol
  split
  · exact .of_same rfl rfl
  · exact .refl s

theorem settle_tableKept (before s : State) : TableKept s (State.settle before s) := by
  have handed := (TableKept.of_lineSide (handOver_lineSide before s)).trans (rederive_tableKept _)
  have pruned := handed.trans (.of_same (u := State.pruneHold before s _) rfl rfl)
  exact ((pruned.trans (examineApply_tableKept _)).trans (autoEnrol_tableKept _)).trans (chooseTurn_queuesOnly _).tableKept

/-! #### A microsecond -/

theorem count_serviceInRange {life : Life} {sv : Service} (range : sv.inRange life = true) :
    sv.count.inRange life = true := by
  rw [serviceInRange_iff] at range ⊢
  obtain ⟨⟨limit, cls, live⟩, staged, ack, demand, fits⟩ := range
  refine ⟨⟨limit, cls, ?_⟩, staged, ack, demand, ?_⟩
  · simp only [Service.count, countUp]
    split_ifs
    · omega
    · exact live
    · exact live
  · show sv.condition.count.fits life sv.limit
    cases condition : sv.condition with
    | tripped t =>
      rw [condition] at fits
      refine ⟨fits.1, fun x h => ?_⟩
      obtain ⟨y, here, rfl⟩ := Option.map_eq_some_iff.mp h
      exact le_trans (Nat.sub_le _ _) (fits.2 y here)
    | _ => rwa [condition] at fits

theorem count_follows (st : Station) : st.follows st.count := by
  refine ⟨rfl, ?_, fun range => ?_⟩
  · unfold Station.kind Station.count
    cases st.service <;> cases st.onLine <;> rfl
  · rw [stationInRange_iff] at range ⊢
    obtain ⟨missed, silent, silence, service⟩ := range
    refine ⟨missed, by simpa [Station.count] using silent, fun t h => ?_, fun sv h => ?_⟩
    · obtain ⟨t', here, rfl⟩ := Option.map_eq_some_iff.mp h
      have bound := silence t' here
      unfold countUp
      split
      · omega
      · exact bound
    · show sv.inRange st.life = true
      simp only [Station.count] at h
      split at h
      · obtain ⟨sv', here, rfl⟩ := Option.map_eq_some_iff.mp h
        exact count_serviceInRange (service sv' here)
      · exact service sv h

theorem count_station (s : State) (n : Slot) : s.count.station n = (s.station n).map Station.count := by
  simp [State.station, State.record, State.count, Record.count]

theorem count_tableKept (s : State) : TableKept s s.count := by
  refine ⟨fun n later here => ?_, fun _ h => h⟩
  rw [count_station] at here
  obtain ⟨st, there, rfl⟩ := Option.map_eq_some_iff.mp here
  exact ⟨st, there, count_follows st⟩

end

theorem tableSound_kept : Kept State.tableSound where
  queue _ _ _ _ _ sound := sound
  count s _ := (count_tableKept s).sound
  bare _ _ _ part := part.tableKept.sound
  settled s u _ part sound := (settle_tableKept s u).sound (part.table_sound sound)
  powerOn _ _ := emptyTable_sound rfl
  pin _ _ := emptyTable_sound rfl
  ended s k nomsel shut full engaged _ := by
    have side := endReset_lineSide s k nomsel shut full engaged
    exact (TableKept.of_same (congrArg Prod.fst side) (congrArg (·.2.2.2.strays) side)).sound

/-- Settles O54. -/
theorem stationTableStaysSound : Obligations.StationTableStaysSound := tableSound_kept.step

end Sys2Proof.Machine

/-! ## Proofs: the supply account (06_the_supply_account.md) -/

namespace Sys2Proof.Machine

section
variable {s u : State}

/-! ### The two totals (R98) -/

/-- A sum over the records of the table, slot by slot. -/
theorem table_sum_congr {f g : Record → Nat} (same : ∀ n, f (u.record n) = g (s.record n)) :
    (u.table.toList.map f).sum = (s.table.toList.map g).sum := by
  have vectors : u.table.map f = s.table.map g := by
    refine Vector.ext fun i h => ?_
    rw [Vector.getElem_map, Vector.getElem_map]
    exact same ⟨i, h⟩
  have lists := congrArg Vector.toList vectors
  rw [Vector.toList_map, Vector.toList_map] at lists
  rw [lists]

theorem committed_congr (share : ∀ n, (u.record n).share = (s.record n).share) (reserved : u.saw.reserved = s.saw.reserved) :
    u.committed = s.committed := by
  rw [State.committed, State.committed, table_sum_congr share, reserved]

theorem room_congr (water : u.water.capacity = s.water.capacity) (reserve : u.account.reserve = s.account.reserve) :
    u.room = s.room := by rw [State.room, State.room, water, reserve]

theorem overcommitted_congr (room : u.room = s.room) (committed : u.committed = s.committed) :
    u.overcommitted = s.overcommitted := by rw [State.overcommitted, State.overcommitted, room, committed]

theorem exceptMute_share (r : Record) : r.exceptMute.share = r.share := by
  cases r with
  | mk c st => cases st <;> rfl

theorem share_of_exceptMute {r q : Record} (same : r.exceptMute = q.exceptMute) : r.share = q.share := by
  rw [← exceptMute_share r, same, exceptMute_share]

/-- R98, R99: what the account's state is derived from stays. -/
theorem overcommitted_of_shares (share : ∀ n, (u.record n).share = (s.record n).share)
    (reserved : u.saw.reserved = s.saw.reserved) (water : u.water.capacity = s.water.capacity)
    (reserve : u.account.reserve = s.account.reserve) : u.overcommitted = s.overcommitted :=
  overcommitted_congr (room_congr water reserve) (committed_congr share reserved)

/-- A block outside those it is derived from leaves it. -/
theorem overcommitted_of_blocks (table : u.table = s.table) (saw : u.saw.reserved = s.saw.reserved)
    (water : u.water = s.water) (reserve : u.account.reserve = s.account.reserve) : u.overcommitted = s.overcommitted :=
  overcommitted_of_shares (fun n => by rw [State.record, State.record, table]) saw (by rw [water]) reserve

/-! ### Balanced and Over (R99, R110) -/

/-- What a pass leaves of the account: all but the mark of R110. -/
theorem curtailRecords_account (c : Nat) (l : List Slot) (s : State) :
    (l.foldl (State.curtailRecord c) s).account = s.account :=
  block_of_blank State.account State.exceptTable (by rintro ⟨⟩; rfl) (curtailRecords_exceptTable c l s)

theorem curtailClass_account (c : Nat) (s : State) : (s.curtailClass c).account = s.account :=
  block_of_blank State.account (fun t => t.exceptTable.exceptSaw) (by rintro ⟨⟩; rfl) (curtailClass_exceptSaw c s)

theorem curtail_account (s : State) : s.curtail.account = s.account ∨
    s.curtail.account = { s.account with unresolvable := true } := by
  have classes : ([3, 2, 1].foldl (fun t c => if t.short then t.curtailClass c else t) s).account = s.account :=
    foldl_keeps State.account _ _ _ fun t c => by
      split
      · exact curtailClass_account c t
      · rfl
  unfold State.curtail
  dsimp only
  split
  · unfold State.markUnresolvable
    split
    · exact .inl classes
    · rw [State.raise_account, classes]; exact .inr rfl
  · exact .inl classes

/-- R110: unresolvable in Over alone; R116: the bound of the reserve. -/
def Account.settledIn (a : Account) : Prop := (a.unresolvable = true → a.isOver = true) ∧ a.reserve ≤ 2000

theorem curtail_settledIn (exceeded : s.account.isOver = true) (sound : s.account.settledIn) : s.curtail.account.settledIn := by
  rcases curtail_account s with same | marked
  · rwa [same]
  · rw [marked]
    exact ⟨fun _ => exceeded, sound.2⟩

theorem curtail_isOver (s : State) : s.curtail.account.isOver = s.account.isOver := by
  rcases curtail_account s with same | marked
  · rw [same]
  · rw [marked]

theorem enterOver_account (s : State) : s.enterOver.account.isOver = true ∧ (s.account.settledIn → s.enterOver.account.settledIn) := by
  refine ⟨(curtail_isOver _).trans (congrArg Account.isOver (State.raise_account _ _)), fun sound => ?_⟩
  exact curtail_settledIn (congrArg Account.isOver (State.raise_account _ _))
    (by rw [State.raise_account]; exact ⟨fun _ => rfl, sound.2⟩)

theorem toBalanced_overcommitted (s : State) : s.toBalanced.overcommitted = s.overcommitted := rfl

/-- R99: after the derivation the account is Over exactly where M > K - R. -/
theorem rederive_isOver (s : State) : s.rederive.account.isOver = s.rederive.overcommitted := by
  unfold State.rederive
  split
  · next exceeded =>
    split
    · next already => rw [exceeded, already]
    · dsimp only
      split
      · next short => rw [short, (enterOver_account s).1]
      · next fits => rw [toBalanced_overcommitted, Bool.eq_false_iff.mpr fits]; rfl
  · next fits =>
    split
    · rw [toBalanced_overcommitted, Bool.eq_false_iff.mpr fits]; rfl
    · next balanced => rw [Bool.eq_false_iff.mpr fits, Bool.eq_false_iff.mpr balanced]

theorem rederive_settledIn (sound : s.account.settledIn) : s.rederive.account.settledIn := by
  have cleared : ∀ t : State, t.account.settledIn → t.toBalanced.account.settledIn := fun t h =>
    ⟨(absurd · Bool.false_ne_true), h.2⟩
  unfold State.rederive
  split
  · split
    · exact sound
    · dsimp only
      split
      · exact (enterOver_account s).2 sound
      · exact cleared _ ((enterOver_account s).2 sound)
  · split
    · exact cleared s sound
    · exact sound

/-! ### The Apply in flight (R105, R106) -/

/-- R106: an Apply in flight has a Pending slot. -/
def Account.applying (a : Account) : Prop := a.apply.all (fun p => decide (p.count .pending ≠ 0)) = true

theorem applyDone_account (s : State) : s.applyDone.account.applying ∧
    s.applyDone.account.isOver = s.account.isOver ∧ (s.account.settledIn → s.applyDone.account.settledIn) ∧
      s.applyDone.account.reserve = s.account.reserve := by
  unfold State.applyDone
  split
  · next a flight =>
    split
    · rw [State.completeApply, State.raise_account]
      exact ⟨rfl, rfl, id, rfl⟩
    · next pending =>
      refine ⟨?_, rfl, id, rfl⟩
      rw [Account.applying, flight]
      exact decide_eq_true pending
  · next none =>
    refine ⟨?_, rfl, id, rfl⟩
    rw [Account.applying, none]
    rfl

theorem examineApply_account (s : State) : s.examineApply.account.applying ∧
    s.examineApply.account.isOver = s.account.isOver ∧ (s.account.settledIn → s.examineApply.account.settledIn) ∧
      s.examineApply.account.reserve = s.account.reserve := by
  unfold State.examineApply
  split
  · exact applyDone_account _
  · next none =>
    refine ⟨?_, rfl, id, rfl⟩
    rw [Account.applying, none]
    rfl

theorem applyDone_table (s : State) : s.applyDone.table = s.table := by
  unfold State.applyDone
  split
  · split
    · exact State.raise_table _ _
    · rfl
  · rfl

theorem examineApply_table (s : State) : s.examineApply.table = s.table := by
  unfold State.examineApply
  split
  · exact applyDone_table _
  · rfl

/-! ### The end of an event -/

theorem accountSound_iff (s : State) : s.accountSound ↔
    s.account.isOver = s.overcommitted ∧ s.account.settledIn ∧ s.account.applying := by
  unfold State.accountSound Account.settledIn Account.applying
  rw [and_assoc]

theorem chooseTurn_account (s : State) : s.chooseTurn.account = s.account ∧ s.chooseTurn.overcommitted = s.overcommitted := by
  have blank := chooseTurn_exceptPort s
  have account : s.chooseTurn.account = s.account :=
    block_of_blank State.account (fun t => t.exceptTable.exceptEngine.exceptPort) (by rintro ⟨⟩; rfl) blank
  refine ⟨account, overcommitted_of_shares (fun n => share_of_exceptMute ((chooseTurn_queuesOnly s).record n)) ?_ ?_ ?_⟩
  · rw [block_of_blank State.saw (fun t => t.exceptTable.exceptEngine.exceptPort) (by rintro ⟨⟩; rfl) blank]
  · rw [block_of_blank State.water (fun t => t.exceptTable.exceptEngine.exceptPort) (by rintro ⟨⟩; rfl) blank]
  · rw [account]

theorem autoEnrol_account (s : State) : s.autoEnrol.account = s.account ∧ s.autoEnrol.overcommitted = s.overcommitted := by
  unfold State.autoEnrol
  split <;> exact ⟨rfl, rfl⟩

theorem examineApply_overcommitted (s : State) : s.examineApply.overcommitted = s.overcommitted := by
  have blank := examineApply_exceptAccount s
  refine overcommitted_of_blocks (examineApply_table s) ?_ ?_ (examineApply_account s).2.2.2
  · rw [block_of_blank State.saw (fun t => t.exceptTable.exceptAccount) (by rintro ⟨⟩; rfl) blank]
  · exact block_of_blank State.water (fun t => t.exceptTable.exceptAccount) (by rintro ⟨⟩; rfl) blank

/-- R99, R106: what the end of an event establishes of the account. -/
theorem settle_accountSound (before : State) (sound : s.account.settledIn) : (State.settle before s).accountSound := by
  rw [State.settle, accountSound_iff, (chooseTurn_account _).1, (chooseTurn_account _).2, (autoEnrol_account _).1,
    (autoEnrol_account _).2, examineApply_overcommitted]
  obtain ⟨applying, isOver, settled, -⟩ :=
    examineApply_account (State.pruneHold before s (State.ceilingChange before (State.levelEvent before s)).rederive)
  have handed : (State.ceilingChange before (State.levelEvent before s)).account = s.account :=
    handOver_block State.account (by rintro ⟨⟩; rfl) before s
  refine ⟨?_, settled ?_, applying⟩
  · rw [isOver]
    exact rederive_isOver _
  · show (State.ceilingChange before (State.levelEvent before s)).rederive.account.settledIn
    exact rederive_settledIn (by rwa [handed])

/-! ### The owners of events -/

theorem account_of_exceptEngine (h : u.exceptTable.exceptEngine = s.exceptTable.exceptEngine) : u.account = s.account :=
  block_of_blank State.account (fun t => t.exceptTable.exceptEngine) (by rintro ⟨⟩; rfl) h

theorem account_of_exceptTable (h : u.exceptTable = s.exceptTable) : u.account = s.account :=
  block_of_blank State.account State.exceptTable (by rintro ⟨⟩; rfl) h

theorem account_of_exceptWater (h : u.exceptTable.exceptEngine.exceptWater = s.exceptTable.exceptEngine.exceptWater) :
    u.account = s.account :=
  block_of_blank State.account (fun t => t.exceptTable.exceptEngine.exceptWater) (by rintro ⟨⟩; rfl) h

theorem startApply_account (scope : Byte) (sc : Scope) (s : State) :
    ∃ a, (s.startApply scope sc).1.account = { s.account with apply := a } := by
  have all : (s.applyAll sc).1.account = s.account := account_of_exceptTable (applyAll_exceptTable sc s)
  rw [startApply_fst]
  generalize s.applyAll sc = r at all ⊢
  split
  · exact ⟨s.account.apply, all⟩
  · exact ⟨_, by rw [all]⟩

theorem handSent_account (s : State) : s.handSent.account = s.account := by
  unfold State.handSent
  split
  · split
    · rfl
    · unfold State.sent
      split
      · rfl
      · exact account_of_exceptWater (congrArg State.exceptEngine (muteSent_exceptWater _ s))
      all_goals rfl
  · rfl

theorem handOutcome_account (h : Heard) (s : State) : (s.handOutcome h).account = s.account :=
  account_of_exceptWater (handOutcome_exceptWater h s)

theorem completeStop_account (s : State) : s.completeStop.account = s.account :=
  account_of_exceptEngine (completeStop_exceptEngine s)

/-- A row of the line moves no more of the account than the Apply and the reserve. -/
theorem LinePart.account (part : LinePart s u) :
    ∃ a r, (r = s.account.reserve ∨ r ≤ 2000) ∧ u.account = { s.account with apply := a, reserve := r } := by
  have kept : u.account = s.account →
      ∃ a r, (r = s.account.reserve ∨ r ≤ 2000) ∧ u.account = { s.account with apply := a, reserve := r } :=
    fun h => ⟨s.account.apply, s.account.reserve, .inl rfl, h⟩
  cases part with
  | provision n kind x cls limit connect =>
    exact kept (account_of_exceptWater (provision_exceptWater n kind x cls limit connect s))
  | vacate n => exact kept (account_of_exceptWater (congrArg State.exceptEngine (vacate_exceptWater n s)))
  | retire n st => exact kept (account_of_exceptEngine (retire_exceptEngine n st s))
  | linkSilent n => exact kept (account_of_exceptWater (congrArg State.exceptEngine (linkSilent_exceptWater n s)))
  | silenceLimit n => exact kept (account_of_exceptTable (silenceLimit_exceptTable n s))
  | apply scope sc =>
    obtain ⟨a, eq⟩ := startApply_account scope sc s
    exact ⟨a, s.account.reserve, .inl rfl, eq⟩
  | reserve r => exact ⟨s.account.apply, min r 2000, .inr (Nat.min_le_right _ _), rfl⟩
  | transmissionOver =>
    refine kept ?_
    unfold State.transmissionOver
    split
    · split
      · rfl
      · exact handSent_account _
    · rfl
  | windowOver =>
    refine kept ?_
    unfold State.windowOver
    split
    · exact handOutcome_account _ _
    · rfl
  | replyOver =>
    refine kept ?_
    unfold State.replyOver
    split
    · exact handOutcome_account _ _
    · rfl
  | replyTooLong =>
    refine kept ?_
    unfold State.replyTooLong
    split
    · exact handOutcome_account _ _
    · rfl
  | turnOver =>
    refine kept ?_
    unfold State.turnOver
    split
    · dsimp only
      split
      · exact completeStop_account _
      · rfl
    · rfl
  | lineStop =>
    refine kept ?_
    unfold State.stopLine
    split
    · exact completeStop_account _
    · rfl
  | stopCompletes => exact kept (account_of_exceptEngine (completeStop_exceptEngine s))
  | abandon x => exact kept (account_of_exceptEngine (abandonSerial_exceptEngine x s))
  | autoEnrol => exact kept (account_of_exceptEngine (autoEnrol_exceptEngine s))
  | planLoad bands => exact kept (State.raise_account _ _)
  | _ => exact kept rfl

theorem LinePart.settledIn (part : LinePart s u) (sound : s.account.settledIn) : u.account.settledIn := by
  obtain ⟨a, r, bound, eq⟩ := part.account
  rw [eq]
  exact ⟨sound.1, bound.elim (fun same => same ▸ sound.2) id⟩

theorem restoreAction_account (s : State) : s.restoreAction.account = s.account :=
  account_of_exceptTable (restoreAction_exceptTable s)

theorem restoreTick_settledIn (isOver : s.account.isOver = s.overcommitted) (sound : s.account.settledIn) :
    s.restoreTick.account.settledIn := by
  have passed : ∀ t : State, t.account.settledIn → t.rederive.restoreAction.rederive.recheckSaw.account.settledIn := by
    intro t h
    rw [lineSide_account (recheckSaw_lineSide _)]
    refine rederive_settledIn ?_
    rw [restoreAction_account]
    exact rederive_settledIn h
  unfold State.restoreTick
  dsimp only
  split
  · next exceeded => exact passed _ (curtail_settledIn (isOver.trans exceeded) sound)
  · exact passed _ sound

theorem SettledPart.settledIn (part : SettledPart s u) (isOver : s.account.isOver = s.overcommitted)
    (sound : s.account.settledIn) : u.account.settledIn := by
  have kept : u.account = s.account → u.account.settledIn := fun h => h ▸ sound
  have saw : SawPart s u → u.account.settledIn := fun part => kept (lineSide_account part.lineSide)
  cases part with
  | line part => exact part.settledIn sound
  | complete sense c =>
    exact kept (block_of_blank State.account (fun t => t.exceptTable.windowBlocks) (by rintro ⟨⟩; rfl)
      (complete_windowBlocks sense c s))
  | slowPeriod => exact kept (block_of_blank State.account State.shedBlocks (by rintro ⟨⟩; rfl) (slowPeriod_shedBlocks s))
  | restoreTick => exact restoreTick_settledIn isOver sound
  | debounceOver => exact saw .debounceOver
  | waitingOver => exact saw .waitingOver
  | preparingOver => exact saw .preparingOver
  | idleOver => exact saw .idleOver
  | sawGrant d idle least most => exact saw (.sawGrant d idle least most)
  | sawStop => exact saw .sawStop
  | shedStep => exact kept (block_of_blank State.account State.shedBlocks (by rintro ⟨⟩; rfl) (shedStep_shedBlocks s))
  | supplyReset =>
    rw [State.supplyReset, State.clearAttn_account]
    exact ⟨(absurd · Bool.false_ne_true), by show (200 : Nat) ≤ 2000; decide⟩

/-! ### Events after which nothing follows -/

/-- A record's share is that of its lifecycle, its target and its acknowledged settings. -/
theorem share_setStation {n : Slot} {st later : Station} (here : s.station n = some st) (same : later.share = st.share)
    (m : Slot) : ((s.setStation n later).record m).share = (s.record m).share := by
  by_cases eq : n = m
  · subst eq
    rw [State.setStation, record_setRecord_self]
    show later.share = _
    rw [same, Record.share]
    rw [State.station] at here
    rw [here]
  · rw [State.setStation, record_setRecord_ne _ _ _ _ eq]

theorem overcommitted_setStation {n : Slot} {st later : Station} (here : s.station n = some st)
    (same : later.share = st.share) : (s.setStation n later).overcommitted = s.overcommitted :=
  overcommitted_of_shares (share_setStation here same) rfl rfl rfl

/-- R98: a Service record's share turns on its condition, limit and acknowledged settings alone. -/
theorem share_service {st : Station} {sv later : Service} (here : st.service = some sv)
    (condition : later.condition = .connected ↔ sv.condition = .connected) (limit : later.limit = sv.limit)
    (ack : later.ack = sv.ack) : Station.share { st with service := some later } = st.share := by
  simp only [Station.share, Station.onLine, Station.ackShare, Station.intendedShare, Station.targetClosed, here, limit, ack,
    condition]

theorem BareLinePart.overcommitted (part : BareLinePart s u) : u.overcommitted = s.overcommitted := by
  cases part with
  | edit n st sv p here service =>
    exact overcommitted_setStation here (share_service service Iff.rfl rfl rfl)
  | recloseDue n =>
    unfold State.recloseDue
    split
    · next st sv here =>
      obtain ⟨station, service, -⟩ := (enrolledService_iff s n st sv).mp here
      split
      · next tripped => exact overcommitted_setStation station (share_service service (by simp [tripped]) rfl rfl)
      · rfl
    · rfl
  | liveLimit n =>
    unfold State.liveLimit
    split
    · next st sv here =>
      obtain ⟨station, service, -⟩ := (onLineService_iff s n st sv).mp here
      split
      · exact overcommitted_setStation station (share_service service Iff.rfl rfl rfl)
      · rfl
    · rfl
  | unmark n =>
    refine overcommitted_of_shares (fun m => ?_) rfl rfl rfl
    by_cases same : n = m
    · subst same
      rw [record_setRecord_self]
      rfl
    · rw [record_setRecord_ne _ _ _ _ same]
  | applyDone =>
    have blank := applyDone_exceptAccount s
    refine overcommitted_of_blocks (applyDone_table s) ?_ ?_ (applyDone_account s).2.2.2
    · rw [block_of_blank State.saw (fun t => t.exceptTable.exceptAccount) (by rintro ⟨⟩; rfl) blank]
    · exact block_of_blank State.water (fun t => t.exceptTable.exceptAccount) (by rintro ⟨⟩; rfl) blank
  | turn => exact (chooseTurn_account s).2
  | dropStray x => rfl
  | startBit char bad => rfl

theorem BareLinePart.accountSound (part : BareLinePart s u) (sound : s.accountSound) : u.accountSound := by
  have exceeded := part.overcommitted
  rw [accountSound_iff] at sound ⊢
  obtain ⟨isOver, settled, applying⟩ := sound
  rw [exceeded]
  have same : u.account = s.account → u.account.isOver = s.overcommitted ∧ u.account.settledIn ∧ u.account.applying :=
    fun h => by rw [h]; exact ⟨isOver, settled, applying⟩
  cases part with
  | edit => exact same rfl
  | recloseDue n => exact same (account_of_exceptTable (recloseDue_exceptTable n s))
  | liveLimit n => exact same (account_of_exceptTable (liveLimit_exceptTable n s))
  | unmark => exact same rfl
  | applyDone =>
    obtain ⟨done, kept, settles, -⟩ := applyDone_account s
    exact ⟨kept.trans isOver, settles settled, done⟩
  | turn => exact same (chooseTurn_account s).1
  | dropStray => exact same rfl
  | startBit => exact same rfl

theorem BarePart.reserved (part : BarePart s u) : u.saw.reserved = s.saw.reserved := by
  cases part with
  | line part => rw [block_of_blank State.saw State.powerBlocks (by rintro ⟨⟩; rfl) part.powerBlocks]
  | governor part =>
    rw [block_of_blank State.saw (fun t => t.exceptTable.exceptGov) (by rintro ⟨⟩; rfl) part.exceptGov]
  | gate part =>
    rw [block_of_blank State.saw (fun t => t.exceptTable.exceptGate) (by rintro ⟨⟩; rfl) part.exceptGate]
  | silence =>
    rw [block_of_blank State.saw (fun t => t.exceptTable.exceptFmu.exceptProt) (by rintro ⟨⟩; rfl)
      (silenceOver_exceptProt s)]
  | raw level =>
    show (s.saw.setRaw level).reserved = _
    unfold Saw.setRaw
    split <;> rfl
  | stuck =>
    unfold State.stuckOver
    split
    · rw [State.raise_saw]
    · rfl
  | _ => rfl

theorem BarePart.accountSound (part : BarePart s u) (sound : s.accountSound) : u.accountSound := by
  rcases part.lineSide with line | side
  · exact line.accountSound sound
  · have account := lineSide_account side
    rw [accountSound_iff] at sound ⊢
    rw [overcommitted_of_blocks (lineSide_table side) part.reserved part.water (by rw [account]), account]
    exact sound

theorem count_share (r : Record) : r.count.share = r.share := by
  obtain ⟨c, st⟩ := r
  cases st with
  | none => rfl
  | some st =>
    show st.count.share = st.share
    cases service : st.service with
    | none => simp [Station.count, Station.share, Station.onLine, Station.ackShare, Station.intendedShare, service]
    | some sv =>
      have condition : sv.count.condition = .connected ↔ sv.condition = .connected := by
        show sv.condition.count = _ ↔ _
        cases sv.condition <;> simp [Condition.count]
      cases onLine : st.onLine with
      | false =>
        have later : st.count.onLine = false := onLine
        rw [Station.share, Station.share, onLine, later]
        rfl
      | true =>
        have counted : st.count = { st with silence := st.silence.map countUp, service := some sv.count } := by
          simp [Station.count, onLine, service]
        rw [counted]
        exact share_service service condition rfl rfl

theorem count_accountSound (sound : s.accountSound) : s.count.accountSound := by
  have exceeded : s.count.overcommitted = s.overcommitted := by
    refine overcommitted_of_shares (fun n => ?_) rfl rfl rfl
    have counted : s.count.record n = (s.record n).count := by simp [State.record, State.count]
    rw [counted, count_share]
  rw [accountSound_iff] at sound ⊢
  rwa [exceeded]

end

theorem accountSound_kept : Kept State.accountSound where
  queue _ _ _ _ _ sound := sound
  count _ _ sound := count_accountSound sound
  bare _ _ _ part sound := part.accountSound sound
  settled s _ _ part sound := by
    obtain ⟨isOver, settled, -⟩ := (accountSound_iff s).mp sound
    exact settle_accountSound s (part.settledIn isOver settled)
  powerOn s _ := ⟨rfl, (absurd · Bool.false_ne_true), by show (200 : Nat) ≤ 2000; decide, rfl⟩
  pin s _ := ⟨rfl, (absurd · Bool.false_ne_true), by show (200 : Nat) ≤ 2000; decide, rfl⟩
  ended s k nomsel shut full engaged _ sound := by
    have side := endReset_lineSide s k nomsel shut full engaged
    have account : (s.endReset k nomsel shut full engaged).account = { s.account with tick := some Config.restoreTime } :=
      congrArg (·.2.1) side
    have exceeded := overcommitted_of_blocks (s := s) (congrArg Prod.fst side)
      (by rw [endReset_saw]; rfl) (endReset_water s k nomsel shut full engaged) (by rw [account])
    rw [accountSound_iff] at sound ⊢
    rw [exceeded, account]
    exact sound

/-- Settles O55. -/
theorem accountStaysSound : Obligations.AccountStaysSound := accountSound_kept.step

end Sys2Proof.Machine

/-! ## Proofs: the roll-call stack (R146, R147) -/

namespace Sys2Proof.Machine

/-! ### Prefixes -/

/-- R186: the unused bits of a Prefix are 0. -/
theorem unused_of_sound {p : Prefix} (sound : p.sound) {j : Nat} (unused : j + p.len < 32) : p.bits.getLsbD j = false := by
  have shifted := congrArg (fun b : BitVec 32 => b.getLsbD (j + p.len)) sound.2
  simp only [BitVec.getLsbD_shiftLeft, unused, decide_true, Bool.true_and, Nat.add_sub_cancel,
    decide_eq_false (Nat.not_lt.mpr (Nat.le_add_left p.len j)), Bool.not_false] at shifted
  exact shifted.trans (BitVec.getLsbD_zero)

/-- R147: the bit that the second child adds. -/
theorem child_bit (p : Prefix) (short : p.len < 32) (j : Nat) :
    (p.child true).bits.getLsbD j = (p.bits.getLsbD j || decide (j = 31 - p.len)) := by
  have one : (1#32 <<< (31 - p.len)).getLsbD j = decide (j = 31 - p.len) := by
    rw [BitVec.getLsbD_shiftLeft, BitVec.getLsbD_one, Bool.eq_iff_iff]
    simp only [Bool.and_eq_true, Bool.not_eq_true', decide_eq_true_iff, decide_eq_false_iff_not]
    omega
  show (p.bits ||| 1#32 <<< (31 - p.len)).getLsbD j = _
  rw [BitVec.getLsbD_or, one]

theorem child_len (p : Prefix) (one : Bool) : (p.child one).len = p.len + 1 := rfl

theorem child_sound {p : Prefix} (one : Bool) (sound : p.sound) (short : p.len < 32) : (p.child one).sound := by
  refine ⟨short, BitVec.eq_of_getLsbD_eq fun i bound => ?_⟩
  rw [BitVec.getLsbD_shiftLeft, child_len, show (0 : BitVec 32).getLsbD i = false from BitVec.getLsbD_zero]
  by_cases low : i < p.len + 1
  · simp [low]
  · have clear : p.bits.getLsbD (i - (p.len + 1)) = false := unused_of_sound sound (by omega)
    cases one with
    | false =>
      rw [show (p.child false).bits = p.bits from rfl, clear, Bool.and_false]
    | true =>
      have away : i - (p.len + 1) ≠ 31 - p.len := by omega
      rw [child_bit p short, clear, decide_eq_false away, Bool.or_false, Bool.and_false]

/-- R146: the two children of a Prefix are not prefixes of each other. -/
theorem children_apart {p : Prefix} (sound : p.sound) (short : p.len < 32) :
    (p.child false).overlaps (p.child true) = false := by
  refine decide_eq_false fun same => ?_
  have bit := congrArg (fun b : BitVec 32 => b.getLsbD 0) same
  simp only [child_len, Nat.min_self, BitVec.getLsbD_ushiftRight, Nat.add_zero] at bit
  have place : 32 - (p.len + 1) = 31 - p.len := by omega
  rw [place, child_bit p short, decide_eq_true rfl, Bool.or_true, show (p.child false).bits = p.bits from rfl,
    unused_of_sound sound (by omega)] at bit
  cases bit

/-- R146: a child overlaps no shorter Prefix that its parent does not overlap. -/
theorem child_overlaps {p q : Prefix} (one : Bool) (short : p.len < 32) (shorter : q.len ≤ p.len) :
    (p.child one).overlaps q = p.overlaps q := by
  have same : (p.child one).bits >>> (32 - q.len) = p.bits >>> (32 - q.len) := by
    refine BitVec.eq_of_getLsbD_eq fun i bound => ?_
    rw [BitVec.getLsbD_ushiftRight, BitVec.getLsbD_ushiftRight]
    cases one with
    | false => rfl
    | true => rw [child_bit p short, decide_eq_false (by omega), Bool.or_false]
  unfold Prefix.overlaps
  dsimp only
  rw [child_len, Nat.min_eq_right (Nat.le_succ_of_le shorter), Nat.min_eq_right shorter, same]

/-- R146: every Prefix overlaps the empty one. -/
theorem overlaps_empty (p q : Prefix) (empty : q.len = 0) : p.overlaps q = true := by
  simp [Prefix.overlaps, empty, BitVec.ushiftRight_eq_zero]

/-! ### The stack -/

/-- A strictly falling run of lengths from 1 to m has at most m of them. -/
theorem length_le_of_falling {l : List Nat} (falling : l.Pairwise (· > ·)) :
    ∀ {m : Nat}, (∀ x ∈ l, 1 ≤ x ∧ x ≤ m) → l.length ≤ m := by
  induction l with
  | nil => exact fun _ => Nat.zero_le _
  | cons x l ih =>
    intro m range
    obtain ⟨below, rest⟩ := List.pairwise_cons.mp falling
    obtain ⟨least, most⟩ := range x List.mem_cons_self
    have shorter : l.length ≤ x - 1 := ih rest fun y h => by
      have := range y (List.mem_cons_of_mem x h)
      have := below y h
      omega
    simp only [List.length_cons]
    omega

/-- R146: a stack beside a roll step without an overlap holds no more prefixes than its Prefix is long. -/
theorem length_of_apart {p : Prefix} {l : List Prefix} (roll : rollSound p l) (apart : l.any p.overlaps = false) :
    l.length ≤ p.len := by
  obtain ⟨-, falling, shorter⟩ := roll
  have counted := length_le_of_falling (m := p.len) falling fun x h => by
    obtain ⟨q, mem, rfl⟩ := List.mem_map.mp h
    refine ⟨Nat.one_le_iff_ne_zero.mpr fun empty => ?_, shorter q mem⟩
    have overlap := overlaps_empty p q empty
    exact List.any_eq_false.mp apart q mem overlap
  simpa using counted

/-- R147, R148: prefixes that go on top of the stack of a roll step. -/
theorem push_stackSound {p : Prefix} {new l : List Prefix} (roll : rollSound p l) (stack : stackSound l)
    (apart : l.any p.overlaps = false) (few : new.length + p.len ≤ 33) (each : ∀ q ∈ new, q.sound)
    (mutual_apart : new.Pairwise fun q r => q.overlaps r = false)
    (free : ∀ q ∈ new, ∀ r ∈ l, q.overlaps r = p.overlaps r) (lens : (new.map Prefix.len ++ l.map Prefix.len).Pairwise (· ≥ ·))
    (strict : (new.map Prefix.len ++ l.map Prefix.len).tail.Pairwise (· > ·)) : stackSound (new ++ l) := by
  obtain ⟨-, pairs, sound, -, -⟩ := stack
  have bound := length_of_apart roll apart
  refine ⟨by rw [List.length_append]; omega, List.pairwise_append.mpr ⟨mutual_apart, pairs, fun q hq r hr => ?_⟩,
    fun q h => (List.mem_append.mp h).elim (each q) (sound q), by rwa [List.map_append], by rwa [List.map_append]⟩
  rw [free q hq r hr]
  exact Bool.eq_false_iff.mpr (List.any_eq_false.mp apart r hr)

/-- R148: the Prefix of a roll step that is put back. -/
theorem putBack_stackSound {p : Prefix} {l : List Prefix} (roll : rollSound p l) (stack : stackSound l)
    (apart : l.any p.overlaps = false) : stackSound ([p] ++ l) := by
  obtain ⟨sound, falling, shorter⟩ := roll
  refine push_stackSound ⟨sound, falling, shorter⟩ stack apart ?_ (by simpa using sound) (List.pairwise_singleton _ _)
    (by simp) ?_ falling
  · have := sound.1
    simp only [List.length_singleton]
    omega
  · refine List.pairwise_cons.mpr ⟨fun x h => ?_, stack.2.2.2.1⟩
    obtain ⟨q, mem, rfl⟩ := List.mem_map.mp h
    exact shorter q mem

/-- R147: the two children of the Prefix of a roll step. -/
theorem split_stackSound {p : Prefix} {l : List Prefix} (roll : rollSound p l) (stack : stackSound l)
    (apart : l.any p.overlaps = false) (short : p.len < 32) :
    stackSound ([p.child false, p.child true] ++ l) := by
  obtain ⟨sound, falling, shorter⟩ := roll
  have longer : ∀ x ∈ l.map Prefix.len, x < p.len + 1 := fun x h => by
    obtain ⟨q, mem, rfl⟩ := List.mem_map.mp h
    exact Nat.lt_succ_of_le (shorter q mem)
  refine push_stackSound ⟨sound, falling, shorter⟩ stack apart ?_ ?_ ?_ ?_ ?_ ?_
  · simp only [List.length_cons, List.length_nil]
    omega
  · simpa using ⟨child_sound false sound short, child_sound true sound short⟩
  · simpa using children_apart sound short
  · intro q hq r hr
    rcases List.mem_pair.mp hq with rfl | rfl
    · exact child_overlaps false short (shorter r hr)
    · exact child_overlaps true short (shorter r hr)
  · refine List.pairwise_cons.mpr ⟨fun x h => ?_, List.pairwise_cons.mpr ⟨fun x h => (longer x h).le, stack.2.2.2.1⟩⟩
    rcases List.mem_cons.mp h with rfl | h
    · exact le_refl _
    · exact (longer x h).le
  · exact List.pairwise_cons.mpr ⟨longer, falling⟩

theorem stackSound_nil : stackSound [] := by simp [stackSound]

theorem stackSound_empty : stackSound [Prefix.empty] := by
  refine ⟨by decide, List.pairwise_singleton _ _, ?_, List.pairwise_singleton _ _, List.Pairwise.nil⟩
  simp [Prefix.empty, Prefix.sound]

theorem rollSound_nil {q : Prefix} (sound : q.sound) : rollSound q [] := ⟨sound, List.Pairwise.nil, by simp⟩

theorem rollSound_empty {q : Prefix} (sound : q.sound) : rollSound q [Prefix.empty] :=
  ⟨sound, List.pairwise_singleton _ _, by simp [Prefix.empty]⟩

/-- R141: the Prefix taken from the stack for a roll step, and what is left. -/
theorem stackSound_pop {p : Prefix} {rest : List Prefix} (stack : stackSound (p :: rest)) :
    rollSound p rest ∧ stackSound rest := by
  obtain ⟨few, pairs, sound, lens, strict⟩ := stack
  obtain ⟨-, restPairs⟩ := List.pairwise_cons.mp pairs
  obtain ⟨below, restLens⟩ := List.pairwise_cons.mp lens
  exact ⟨⟨sound p List.mem_cons_self, strict, fun q h => below _ (List.mem_map_of_mem h)⟩,
    (Nat.le_succ _).trans few, restPairs, fun q h => sound q (List.mem_cons_of_mem p h), restLens, strict.tail⟩

end Sys2Proof.Machine

/-! ## Proofs: the line port and the line engine stay sound (07_the_field_line.md, 08_line_engine_and_enrollment.md) -/

namespace Sys2Proof.Machine

/-! ### The parts of the soundness -/

/-- R140: the places of the errand queue, with no serial twice. -/
def Engine.errandsFit (e : Engine) : Prop := e.errands.length ≤ Config.errandPlaces ∧ (e.errands.map Errand.serial).Nodup

/-- R139, R144, R152: the shed queue, the stray list and the push hold set. -/
def Engine.listsFit (e : Engine) : Prop :=
  (e.sheds.map ShedEntry.cls).Nodup ∧ (∀ x ∈ e.sheds, 1 ≤ x.cls ∧ x.cls ≤ 3 ∧ x.amount ≤ Config.feedBound) ∧
    e.strays.length ≤ Config.strayPlaces ∧ e.strays.Nodup ∧ e.hold.Nodup

/-- What is asked of the port, the stop in progress and the stack. -/
def Engine.turnsFit (p : LinePort) (e : Engine) : Prop :=
  p.sound ∧ (e.stopping = true → p.phase ≠ .idle) ∧ stackSound e.stack ∧ ∀ q ∈ p.rolling, rollSound q e.stack

theorem lineSound_iff (s : State) : s.lineSound ↔ s.engine.errandsFit ∧ s.engine.listsFit ∧ s.engine.turnsFit s.port := by
  constructor
  · rintro ⟨port, ⟨sheds, entries, places, serials, strays, nodup, hold⟩, stopping, stack, roll⟩
    exact ⟨⟨places, serials⟩, ⟨sheds, entries, strays, nodup, hold⟩, port, stopping, stack, roll⟩
  · rintro ⟨⟨places, serials⟩, ⟨sheds, entries, strays, nodup, hold⟩, port, stopping, stack, roll⟩
    exact ⟨port, ⟨sheds, entries, places, serials, strays, nodup, hold⟩, stopping, stack, roll⟩

theorem lineSound_of_same {s u : State} (port : u.port = s.port) (engine : u.engine = s.engine) (sound : s.lineSound) :
    u.lineSound := by
  rw [lineSound_iff] at sound ⊢
  rwa [port, engine]

/-- The engine is written, its stop and its stack apart. -/
theorem lineSound_engine {s : State} {e : Engine} (errands : s.engine.errandsFit → e.errandsFit)
    (lists : s.engine.listsFit → e.listsFit) (stopping : e.stopping = s.engine.stopping) (stack : e.stack = s.engine.stack)
    (sound : s.lineSound) : State.lineSound { s with engine := e } := by
  rw [lineSound_iff] at sound ⊢
  obtain ⟨fit, listed, port, stop, stacked, roll⟩ := sound
  exact ⟨errands fit, lists listed, port, fun h => stop (stopping ▸ h), stack ▸ stacked, stack ▸ roll⟩

/-- The stack is written. -/
theorem lineSound_stack {s : State} {e : Engine} (fields : e.errands = s.engine.errands ∧ e.sheds = s.engine.sheds ∧
      e.strays = s.engine.strays ∧ e.hold = s.engine.hold ∧ e.stopping = s.engine.stopping)
    (stack : stackSound e.stack) (roll : ∀ q ∈ s.port.rolling, rollSound q s.engine.stack → rollSound q e.stack)
    (sound : s.lineSound) : State.lineSound { s with engine := e } := by
  obtain ⟨errands, sheds, strays, hold, stopping⟩ := fields
  rw [lineSound_iff] at sound ⊢
  obtain ⟨fit, listed, port, stop, -, rolling⟩ := sound
  refine ⟨?_, ?_, port, fun h => stop (stopping ▸ h), stack, fun q h => roll q h (rolling q h)⟩
  · rwa [Engine.errandsFit, errands]
  · rwa [Engine.listsFit, sheds, strays, hold]

/-- R146: a stack that begins again, or is emptied. -/
theorem lineSound_restart {s : State} {e : Engine} (fields : e.errands = s.engine.errands ∧ e.sheds = s.engine.sheds ∧
      e.strays = s.engine.strays ∧ e.hold = s.engine.hold ∧ e.stopping = s.engine.stopping)
    (stack : e.stack = [Prefix.empty] ∨ e.stack = []) (sound : s.lineSound) : State.lineSound { s with engine := e } := by
  refine lineSound_stack fields ?_ (fun q _ roll => ?_) sound
  · rcases stack with empty | none
    · rw [empty]; exact stackSound_empty
    · rw [none]; exact stackSound_nil
  · rcases stack with empty | none
    · rw [empty]; exact rollSound_empty roll.1
    · rw [none]; exact rollSound_nil roll.1

/-! ### Errands (R140) -/

section
variable {e : Engine}

theorem hasErrand_of_hasMute {x : Serial} (mute : e.hasMute x = true) : e.hasErrand x = true := by
  obtain ⟨r, mem, here⟩ := List.any_eq_true.mp mute
  exact List.any_eq_true.mpr ⟨r, mem, (Bool.and_eq_true _ _ ▸ here).2⟩

theorem addErrand_fit {r : Errand} (room : e.errandRoom = true) (free : e.hasErrand r.serial = false)
    (fit : e.errandsFit) : (e.addErrand r).errandsFit := by
  have absent : r.serial ∉ e.errands.map Errand.serial := fun mem => by
    obtain ⟨q, here, same⟩ := List.mem_map.mp mem
    exact List.any_eq_false.mp free q here (decide_eq_true same)
  have places : e.errands.length < Config.errandPlaces := of_decide_eq_true room
  refine ⟨?_, ?_⟩
  · show (e.errands ++ [r]).length ≤ _
    rw [List.length_append]
    exact places
  · show ((e.errands ++ [r]).map Errand.serial).Nodup
    rw [List.map_append]
    exact fit.2.append (List.nodup_singleton _) (by simpa using absent)

theorem replaceErrand_fit (r : Errand) (fit : e.errandsFit) : (e.replaceErrand r).errandsFit := by
  have serials : (e.replaceErrand r).errands.map Errand.serial = e.errands.map Errand.serial := by
    refine (List.map_map ..).trans (List.map_congr_left fun q _ => ?_)
    simp only [Function.comp]
    split
    · next same => exact same.symm
    · rfl
  refine ⟨?_, by rw [serials]; exact fit.2⟩
  show (List.map _ _).length ≤ _
  rw [List.length_map]
  exact fit.1

/-- Errands that leave the queue. -/
theorem errandsFit_of_sublist {d : Engine} (less : d.errands.Sublist e.errands) (fit : e.errandsFit) : d.errandsFit :=
  ⟨less.length_le.trans fit.1, fit.2.sublist (less.map _)⟩

end

/-- What the owner's table operations leave of the line. -/
structure LineKept (s u : State) : Prop where
  port : u.port = s.port
  engine : u.engine.exceptErrands = s.engine.exceptErrands
  errands : s.engine.errandsFit → u.engine.errandsFit

namespace LineKept

theorem trans {s u v : State} (first : LineKept s u) (next : LineKept u v) : LineKept s v :=
  ⟨next.port.trans first.port, next.engine.trans first.engine, next.errands ∘ first.errands⟩

theorem of_same {s u : State} (port : u.port = s.port) (engine : u.engine = s.engine) : LineKept s u :=
  ⟨port, by rw [engine], fun h => engine ▸ h⟩

theorem refl (s : State) : LineKept s s := of_same rfl rfl

theorem of_exceptTable {s u : State} (h : u.exceptTable = s.exceptTable) : LineKept s u :=
  of_same (block_of_blank State.port State.exceptTable (by rintro ⟨⟩; rfl) h)
    (block_of_blank State.engine State.exceptTable (by rintro ⟨⟩; rfl) h)

theorem of_exceptWater {s u : State} (h : u.exceptTable.exceptWater = s.exceptTable.exceptWater) : LineKept s u :=
  of_same (block_of_blank State.port (fun t => t.exceptTable.exceptWater) (by rintro ⟨⟩; rfl) h)
    (block_of_blank State.engine (fun t => t.exceptTable.exceptWater) (by rintro ⟨⟩; rfl) h)

/-- An operation begun from a state with the same port and engine. -/
theorem from_same {s t u : State} (kept : LineKept t u) (port : t.port = s.port) (engine : t.engine = s.engine) :
    LineKept s u := trans (of_same port engine) kept

theorem errandQueue {s : State} {l : List Errand}
    (fit : s.engine.errandsFit → Engine.errandsFit { s.engine with errands := l }) :
    LineKept s { s with engine := { s.engine with errands := l } } := ⟨rfl, rfl, fit⟩

theorem sound {s u : State} (kept : LineKept s u) (sound : s.lineSound) : u.lineSound := by
  obtain ⟨port, engine, errands⟩ := kept
  rw [lineSound_iff] at sound ⊢
  obtain ⟨fit, lists, turns⟩ := sound
  refine ⟨errands fit, ?_, ?_⟩
  · show u.engine.exceptErrands.listsFit
    rw [engine]; exact lists
  · show u.engine.exceptErrands.turnsFit u.port
    rw [engine, port]; exact turns

theorem foldl {α : Type} (f : State → α → State) (step : ∀ t x, LineKept t (f t x)) (l : List α) (s : State) :
    LineKept s (l.foldl f s) :=
  List.foldlRecOn (motive := LineKept s) _ _ (refl s) fun t kept x _ => kept.trans (step t x)

end LineKept

section
variable {s u : State}

/-! ### The placing of errands -/

theorem setMute_lineKept (n : Slot) (m : MuteErrand) (s : State) : LineKept s (s.setMute n m) :=
  .of_exceptTable (setMute_exceptTable n m s)

theorem placeMute_lineKept (x : Serial) (s : State) : LineKept s (s.placeMute x) := by
  unfold State.placeMute
  split
  · next free =>
    rw [Bool.and_eq_true, Bool.not_eq_true'] at free
    exact .errandQueue (addErrand_fit (r := .mute x) free.1 free.2)
  · exact .refl s

theorem placeWantedMute_lineKept (n : Slot) (s : State) : LineKept s (s.placeWantedMute n) := by
  unfold State.placeWantedMute
  split
  · exact .refl s
  · split_ifs with _ held _ room
    · exact setMute_lineKept n _ s
    · exact .refl s
    · exact (LineKept.errandQueue (replaceErrand_fit _)).trans (setMute_lineKept n _ _)
    · next st _ =>
      exact (LineKept.errandQueue (addErrand_fit (r := .mute st.serial) room (Bool.eq_false_iff.mpr held))).trans
        (setMute_lineKept n _ _)
    · exact .refl s

theorem wantMute_lineKept (n : Slot) (s : State) : LineKept s (s.wantMute n) :=
  (setMute_lineKept n _ s).trans (placeWantedMute_lineKept n _)

theorem placeFreed_lineKept (s : State) : LineKept s s.placeFreed := by
  unfold State.placeFreed
  split
  · exact placeWantedMute_lineKept _ s
  · exact .refl s

theorem readyTest_lineKept (n : Slot) (s : State) : LineKept s (s.readyTest n) := by
  unfold State.readyTest
  split
  · split
    · exact wantMute_lineKept n s
    · exact .refl s
  · exact .refl s

theorem dropStale_lineKept (k : Nat) (s : State) : LineKept s (s.dropStale k) := by
  induction k generalizing s with
  | zero => exact .refl s
  | succ k ih =>
    unfold State.dropStale
    split
    · next rest queue =>
      split
      · exact .refl s
      · refine LineKept.trans (.errandQueue (errandsFit_of_sublist ?_)) ((placeFreed_lineKept _).trans (ih _))
        show rest.Sublist _
        rw [queue]
        exact List.sublist_cons_self _ _
    · exact .refl s
    · exact .refl s

theorem placeAllWanted_lineKept (s : State) : LineKept s s.placeAllWanted := by
  unfold State.placeAllWanted
  refine .foldl _ (fun t n => ?_) _ _
  split
  · split
    · exact placeWantedMute_lineKept _ t
    · exact .refl t
  · exact .refl t

/-! ### Replies -/

theorem report_lineKept (n : Slot) (c : Content) (s : State) : LineKept s (s.report n c) := by
  cases c with
  | service a d trip =>
    simp only [State.report, State.serviceReport]
    split
    · exact .refl s
    · refine LineKept.trans (.of_exceptTable ?_) (readyTest_lineKept n _)
      rw [acknowledge_exceptTable]
      cases trip with
      | none => exact linkAnswered_exceptTable n s
      | some r => exact (tripIndication_exceptTable n r _).trans (linkAnswered_exceptTable n s)
  | gauge l =>
    simp only [State.report, State.gaugeReport]
    split
    · split
      · exact (LineKept.of_exceptTable (linkAnswered_exceptTable n s)).trans (.of_same rfl rfl)
      · exact .refl s
    · exact .refl s

theorem takeReply_lineKept (x : Serial) (n : Slot) (c : Content) (s : State) : LineKept s (s.takeReply x n c) := by
  unfold State.takeReply
  split
  · split
    · split
      · exact .of_exceptWater (enrol_exceptWater n _ c s)
      · exact report_lineKept n c s
      · exact report_lineKept n c s
    · exact placeMute_lineKept x s
  · exact placeMute_lineKept x s

theorem missedReply_lineKept (n : Slot) (order : Bool) (s : State) : LineKept s (s.missedReply n order) :=
  .of_exceptWater (missedReply_exceptWater n order s)

theorem muteSent_lineKept (x : Serial) (s : State) : LineKept s (s.muteSent x) := .of_exceptWater (muteSent_exceptWater x s)

theorem retire_lineKept (n : Slot) (st : Station) (s : State) : LineKept s (s.retire n st) := by
  unfold State.retire
  split
  · exact (readyTest_lineKept n _).from_same rfl rfl
  · exact (wantMute_lineKept n _).from_same rfl rfl

theorem raise_lineKept (a : Attn) (s : State) : LineKept s (s.raise a) :=
  .of_same (State.raise_port a s) (State.raise_engine a s)

/-! ### The choice of a turn (R141) -/

theorem hand_port_sound (m : Message) (k : Option Kind) (t : Nat) :
    LinePort.sound ⟨.transmitting, some ⟨m, k, false⟩, [], false, some t, none, none⟩ := by
  refine ⟨rfl, rfl, rfl, rfl, fun _ => ⟨rfl, rfl⟩⟩

theorem hand_lineSound (roll : Bool) (m : Message) (errands : s.engine.errandsFit) (lists : s.engine.listsFit)
    (stack : stackSound s.engine.stack) (rolls : ∀ q, m = .roll q → rollSound q s.engine.stack) :
    (s.hand roll m).lineSound := by
  rw [lineSound_iff]
  refine ⟨errands, lists, hand_port_sound m _ _, fun _ => by simp [State.hand], stack, fun q h => rolls q ?_⟩
  cases m <;> simp [State.hand, LinePort.rolling] at h
  rw [h]

/-- A message that is no roll step is handed over. -/
theorem hand_lineSound_of_kept {t : State} (roll : Bool) {m : Message} (rolls : ∀ q, m ≠ .roll q)
    (errands : s.engine.errandsFit → t.engine.errandsFit) (lists : s.engine.listsFit → t.engine.listsFit)
    (stack : t.engine.stack = s.engine.stack) (sound : s.lineSound) : (t.hand roll m).lineSound := by
  obtain ⟨fit, listed, -, -, stacked, -⟩ := (lineSound_iff s).mp sound
  exact hand_lineSound roll m (errands fit) (lists listed) (stack ▸ stacked) fun q h => absurd h (rolls q)

theorem chooseRollOrPoll_lineSound (sound : s.lineSound) : s.chooseRollOrPoll.lineSound := by
  unfold State.chooseRollOrPoll
  split
  · next p rest _ top =>
    obtain ⟨fit, listed, -, -, stacked, -⟩ := (lineSound_iff s).mp sound
    rw [top] at stacked
    obtain ⟨roll, popped⟩ := stackSound_pop stacked
    exact hand_lineSound true _ fit listed popped fun q h => by cases h; exact roll
  · split
    · exact hand_lineSound_of_kept (s := s) false (by simp) id id rfl sound
    · exact sound

theorem choosePush_lineSound (sound : s.lineSound) : s.choosePush.lineSound := by
  unfold State.choosePush
  split
  · split
    · exact hand_lineSound_of_kept false (by simp) id id rfl sound
    · exact chooseRollOrPoll_lineSound sound
  · exact chooseRollOrPoll_lineSound sound

theorem chooseErrand_lineSound (sound : s.lineSound) : s.chooseErrand.lineSound := by
  have dropped := (dropStale_lineKept s.engine.errands.length s).sound sound
  unfold State.chooseErrand
  dsimp only
  split
  · next rest queue =>
    have less : rest.Sublist (s.dropStale s.engine.errands.length).engine.errands := by
      rw [queue]
      exact List.sublist_cons_self _ _
    refine (placeFreed_lineKept _).sound (hand_lineSound_of_kept (s := s.dropStale s.engine.errands.length) false (by simp)
      (errandsFit_of_sublist less) id rfl dropped)
  · exact hand_lineSound_of_kept false (by simp) id id rfl dropped
  · exact choosePush_lineSound dropped

/-- R141, R142: the oldest shed entry leaves. -/
theorem listsFit_of_sheds {e : ShedEntry} {rest : List ShedEntry} (queue : s.engine.sheds = e :: rest)
    (fit : s.engine.listsFit) : Engine.listsFit { s.engine with sheds := rest } := by
  obtain ⟨classes, entries, lists⟩ := fit
  rw [queue] at classes entries
  exact ⟨(List.nodup_cons.mp classes).2, fun x h => entries x (List.mem_cons_of_mem e h), lists⟩

theorem chooseTurn_lineSound (sound : s.lineSound) : s.chooseTurn.lineSound := by
  rcases s.chooseTurn_cases with stays | ⟨-, -, clear | ⟨e, rest, queue, shed⟩ | errand⟩
  · rwa [stays]
  · rw [clear]; exact hand_lineSound_of_kept false (by simp) id id rfl sound
  · rw [shed]; exact hand_lineSound_of_kept (s := s) false (by simp) id (listsFit_of_sheds queue) rfl sound
  · rw [errand]; exact chooseErrand_lineSound sound

/-! ### Outcomes -/

theorem dropAssign_sublist (x : Serial) (n : Slot) (e : Engine) : (e.dropAssign x n).errands.Sublist e.errands :=
  List.filter_sublist

theorem attempts_some {e : Engine} {x : Serial} {n : Slot} {o : Origin} {a : Nat} (found : e.attempts x n = some (o, a)) :
    .assign x n o a ∈ e.errands := by
  unfold Engine.attempts at found
  split at found
  · next y m o' a' here =>
    cases found
    have assign := List.find?_some here
    simp only [Errand.isAssign, Bool.and_eq_true, decide_eq_true_iff] at assign
    obtain ⟨rfl, rfl⟩ := assign
    exact List.mem_of_find?_eq_some here
  · cases found

/-- R143: an ASSIGN that leaves the queue frees its place and its serial. -/
theorem dropAssign_fit {e : Engine} {x : Serial} {n : Slot} {o : Origin} {a : Nat} (queued : .assign x n o a ∈ e.errands)
    (fit : e.errandsFit) : (e.dropAssign x n).errandRoom = true ∧ (e.dropAssign x n).hasErrand x = false := by
  have isAssign : Errand.isAssign x n (.assign x n o a) = true := by simp [Errand.isAssign]
  refine ⟨decide_eq_true ?_, List.any_eq_false.mpr fun r mem same => ?_⟩
  · have fewer : (e.dropAssign x n).errands.length < e.errands.length := by
      refine List.length_filter_lt_length_iff_exists.mpr ⟨_, queued, ?_⟩
      simp [isAssign]
    exact lt_of_lt_of_le fewer fit.1
  · obtain ⟨here, other⟩ := List.mem_filter.mp mem
    have eq : r = .assign x n o a := List.inj_on_of_nodup_map fit.2 here queued (of_decide_eq_true same)
    rw [eq, isAssign] at other
    cases other

theorem assignMissed_lineSound (x : Serial) (n : Slot) (sound : s.lineSound) : (s.assignMissed x n).lineSound := by
  unfold State.assignMissed
  split
  · next o a found =>
    have queued := attempts_some found
    split
    · refine lineSound_engine (fun fit => ?_) id rfl rfl sound
      obtain ⟨room, free⟩ := dropAssign_fit queued fit
      exact addErrand_fit (r := .assign x n o (a + 1)) room free (errandsFit_of_sublist (dropAssign_sublist x n _) fit)
    · refine (placeFreed_lineKept _).sound ((raise_lineKept _ _).sound ?_)
      exact lineSound_engine (errandsFit_of_sublist (dropAssign_sublist x n _)) id rfl rfl sound
  · exact sound

theorem abandon_lineSound (x : Serial) (n : Slot) (sound : s.lineSound) : (s.abandon x n).lineSound :=
  (placeFreed_lineKept _).sound ((raise_lineKept _ _).sound
    (lineSound_engine (errandsFit_of_sublist (dropAssign_sublist x n _)) id rfl rfl sound))

theorem assignTaken_lineSound (x : Serial) (n : Slot) (c : Content) (sound : s.lineSound) :
    (s.assignTaken x n c).lineSound := by
  unfold State.assignTaken
  split
  · exact (placeFreed_lineKept _).sound ((takeReply_lineKept x n c _).sound
      (lineSound_engine (errandsFit_of_sublist (dropAssign_sublist x n _)) id rfl rfl sound))
  · exact (takeReply_lineKept x n c s).sound sound

/-- R146: prefixes go on the stack of a line whose roll step is over. -/
theorem pushPrefixes_lineSound {p : Prefix} {new : List Prefix} (quiet : s.port.rolling = none)
    (stack : s.engine.stack.any p.overlaps = false → stackSound (new ++ s.engine.stack)) (sound : s.lineSound) :
    (s.pushPrefixes p new).lineSound := by
  unfold State.pushPrefixes
  split
  · exact sound
  · next apart =>
    exact lineSound_stack ⟨rfl, rfl, rfl, rfl, rfl⟩ (stack (Bool.eq_false_iff.mpr apart))
      (fun q h => by rw [quiet] at h; cases h) sound

theorem withCounts_lineSound (f : EnrolCounts → EnrolCounts) (sound : s.lineSound) : (s.withCounts f).lineSound :=
  lineSound_engine id id rfl rfl sound

theorem addStray_listsFit {e : Engine} {x : Serial} (absent : e.strays.contains x = false)
    (room : e.strays.length < Config.strayPlaces) (fit : e.listsFit) : Engine.listsFit { e with strays := e.strays ++ [x] } := by
  obtain ⟨sheds, entries, -, nodup, hold⟩ := fit
  refine ⟨sheds, entries, ?_, ?_, hold⟩
  · show (e.strays ++ [x]).length ≤ _
    rw [List.length_append]
    exact room
  · rw [List.contains_eq_mem, decide_eq_false_iff_not] at absent
    exact nodup.append (List.nodup_singleton _) (by simpa using absent)

theorem cleanSerial_lineSound {p : Prefix} (x : Serial) (quiet : s.port.rolling = none)
    (roll : rollSound p s.engine.stack) (sound : s.lineSound) : (s.cleanSerial p x).lineSound := by
  obtain ⟨-, -, -, -, stacked, -⟩ := (lineSound_iff s).mp sound
  have putBack : (s.pushPrefixes p [p]).lineSound := pushPrefixes_lineSound quiet (putBack_stackSound roll stacked) sound
  unfold State.cleanSerial
  dsimp only
  split
  · split
    · exact sound
    · split_ifs with _ claimed full muted
      · exact withCounts_lineSound _ sound
      · exact withCounts_lineSound _ sound
      · exact putBack
      · exact withCounts_lineSound _ (lineSound_engine (replaceErrand_fit _) id rfl rfl sound)
      · have room : s.engine.errandRoom = true := by simpa using full
        have free : s.engine.hasErrand x = false := by
          rw [Bool.eq_false_iff]
          exact fun held => claimed (by simp [held, Bool.eq_false_iff.mpr muted])
        exact withCounts_lineSound _ (lineSound_engine (addErrand_fit room free) id rfl rfl sound)
  · split_ifs with listed queued room places full queued
    · exact withCounts_lineSound _ sound
    · exact withCounts_lineSound _
        (lineSound_engine (addErrand_fit (r := .mute x) room (Bool.eq_false_iff.mpr queued)) id rfl rfl sound)
    · exact putBack
    · exact putBack
    · have lists := addStray_listsFit (Bool.eq_false_iff.mpr listed) places
      exact (raise_lineKept _ _).sound (withCounts_lineSound _
        (lineSound_engine (s := s) (e := Engine.replaceErrand (.mute x) { s.engine with strays := s.engine.strays ++ [x] })
          (replaceErrand_fit (e := { s.engine with strays := s.engine.strays ++ [x] }) _) lists rfl rfl sound))
    · have lists := addStray_listsFit (Bool.eq_false_iff.mpr listed) places
      have room : s.engine.errandRoom = true := by simpa using full
      exact (raise_lineKept _ _).sound (withCounts_lineSound _
        (lineSound_engine (s := s) (e := Engine.addErrand (.mute x) { s.engine with strays := s.engine.strays ++ [x] })
          (addErrand_fit (e := { s.engine with strays := s.engine.strays ++ [x] }) (r := .mute x) room
            (Bool.eq_false_iff.mpr queued)) lists rfl rfl sound))
    · exact (raise_lineKept _ _).sound (withCounts_lineSound _ (lineSound_engine id id rfl rfl sound))

theorem rollClass_lineSound {p : Prefix} (c : RollClass) (quiet : s.port.rolling = none)
    (roll : rollSound p s.engine.stack) (sound : s.lineSound) : (s.rollClass p c).lineSound := by
  obtain ⟨-, -, -, -, stacked, -⟩ := (lineSound_iff s).mp sound
  cases c with
  | silence => exact sound
  | clean x => exact cleanSerial_lineSound x quiet roll sound
  | collision =>
    simp only [State.rollClass]
    split
    · next short =>
      unfold State.splitPrefix
      split
      · exact pushPrefixes_lineSound quiet (fun apart => split_stackSound roll stacked apart short) sound
      · exact sound
    · exact (raise_lineKept _ _).sound (withCounts_lineSound _ sound)

theorem raiseIf_lineKept (c : Bool) (a : Attn) (s : State) : LineKept s (s.raiseIf c a) := by
  cases c with
  | false => exact .refl s
  | true => exact raise_lineKept a s

theorem endIfDone_lineSound (sound : s.lineSound) : s.endIfDone.lineSound := by
  unfold State.endIfDone
  split
  · split
    · exact (raiseIf_lineKept _ _ _).sound (lineSound_engine id id rfl rfl sound)
    · exact sound
  · exact sound
  · exact sound

theorem hold_listsFit {e d : Engine} (sheds : d.sheds = e.sheds) (strays : d.strays = e.strays) (hold : d.hold.Nodup)
    (fit : e.listsFit) : d.listsFit := by
  obtain ⟨classes, entries, places, nodup, -⟩ := fit
  rw [Engine.listsFit, sheds, strays]
  exact ⟨classes, entries, places, nodup, hold⟩

theorem leaveHold_lineSound (n : Slot) (sound : s.lineSound) : (s.withEngine (Engine.leaveHold n)).lineSound :=
  lineSound_engine id (fun fit => hold_listsFit (e := s.engine) rfl rfl (fit.2.2.2.2.sublist List.filter_sublist) fit) rfl rfl sound

theorem joinHold_lineSound (n : Slot) (sound : s.lineSound) : (s.withEngine (Engine.joinHold n)).lineSound := by
  by_cases held : s.engine.hold.contains n = true
  · have same : s.engine.joinHold n = s.engine := if_pos held
    exact lineSound_of_same (s := s) rfl same sound
  · have joined : s.engine.joinHold n = { s.engine with hold := s.engine.hold ++ [n] } := if_neg held
    rw [State.withEngine, joined]
    refine lineSound_engine id (fun fit => hold_listsFit (e := s.engine) rfl rfl ?_ fit) rfl rfl sound
    obtain ⟨-, -, -, -, nodup⟩ := fit
    exact nodup.append (List.nodup_singleton n) (by simpa using held)

theorem outcome_lineSound {t : Turn} (h : Heard) (quiet : s.port.rolling = none)
    (roll : ∀ p, t.message = .roll p → rollSound p s.engine.stack) (sound : s.lineSound) : (s.outcome t h).lineSound := by
  unfold State.outcome
  split
  · split
    · exact leaveHold_lineSound _ ((report_lineKept _ _ s).sound sound)
    · exact (missedReply_lineKept _ _ s).sound sound
  · split
    · dsimp only
      split
      · exact joinHold_lineSound _ ((report_lineKept _ _ s).sound sound)
      · exact (report_lineKept _ _ s).sound sound
    · exact (missedReply_lineKept _ _ s).sound sound
  · split
    · exact assignTaken_lineSound _ _ _ sound
    · exact assignMissed_lineSound _ _ sound
  · next p message => exact endIfDone_lineSound (rollClass_lineSound _ quiet (roll p message) sound)
  all_goals exact sound

/-! ### The phases of a turn (R124) -/

theorem toQuiet_rolling (p : LinePort) : p.toQuiet.rolling = none := rfl

/-- The Prefix of a turn that is a roll step not made void. -/
def rollOf : Option Turn → Option Prefix
  | some ⟨.roll q, _, false⟩ => some q
  | _ => none

theorem rolling_of_busy {p : LinePort} (idle : p.phase ≠ .idle) (quiet : p.phase ≠ .quiet) : p.rolling = rollOf p.turn := by
  obtain ⟨phase, turn, reply, framing, timer, gap, limit⟩ := p
  cases phase with
  | idle => exact absurd rfl idle
  | quiet => exact absurd rfl quiet
  | _ =>
    rcases turn with _ | ⟨m, k, v⟩
    · rfl
    · cases m <;> cases v <;> rfl

/-- The same turn in two phases of a turn before its quiet gap. -/
theorem mem_rolling_congr {p q : LinePort} {r : Prefix} (h : r ∈ p.rolling) (turn : p.turn = q.turn)
    (busy : p.phase ≠ .idle ∧ p.phase ≠ .quiet) (later : q.phase ≠ .idle ∧ q.phase ≠ .quiet) : r ∈ q.rolling := by
  rw [rolling_of_busy busy.1 busy.2] at h
  rwa [rolling_of_busy later.1 later.2, ← turn]

theorem toQuiet_lineSound (busy : s.port.phase ≠ .idle) (sound : s.lineSound) :
    State.lineSound { s with port := s.port.toQuiet } := by
  rw [lineSound_iff] at sound ⊢
  obtain ⟨fit, lists, ⟨turn, -⟩, -, stack, -⟩ := sound
  refine ⟨fit, lists, ⟨?_, rfl, rfl, rfl, fun _ => ⟨rfl, rfl⟩⟩, fun _ => by simp [LinePort.toQuiet], stack,
    fun q h => by cases h⟩
  show s.port.turn.isSome = decide (Phase.quiet ≠ .idle)
  rw [turn, decide_eq_true busy]
  rfl

theorem handOutcome_lineSound (h : Heard) (idle : s.port.phase ≠ .idle) (quiet : s.port.phase ≠ .quiet)
    (sound : s.lineSound) : (State.handOutcome h { s with port := s.port.toQuiet }).lineSound := by
  have quieted := toQuiet_lineSound idle sound
  obtain ⟨-, -, -, -, -, rolls⟩ := (lineSound_iff s).mp sound
  unfold State.handOutcome
  split
  · next t turn =>
    split
    · exact quieted
    · next valid =>
      refine outcome_lineSound h rfl (fun p message => ?_) quieted
      obtain ⟨m, k, v⟩ := t
      cases Bool.eq_false_iff.mpr valid
      cases (message : m = .roll p)
      refine rolls p ?_
      rw [rolling_of_busy idle quiet]
      exact congrArg rollOf turn
  · exact quieted

theorem handSent_lineSound (sound : s.lineSound) : s.handSent.lineSound := by
  unfold State.handSent
  split
  · split
    · exact sound
    · unfold State.sent
      split
      · exact sound
      · exact (muteSent_lineKept _ s).sound sound
      · exact lineSound_engine id id rfl rfl sound
      all_goals exact sound
  · exact sound

theorem transmissionOver_lineSound (sound : s.lineSound) : s.transmissionOver.lineSound := by
  unfold State.transmissionOver
  split
  · next phase =>
    split
    · rw [lineSound_iff] at sound ⊢
      obtain ⟨fit, lists, ⟨turn, -, gap, limit, reply⟩, stopping, stack, rolls⟩ := sound
      rw [phase] at turn gap limit reply
      refine ⟨fit, lists, ⟨turn, rfl, gap, limit, fun _ => reply (by simp)⟩, fun _ => by simp, stack, fun q h => rolls q ?_⟩
      exact mem_rolling_congr h rfl (by simp) (by simp [phase])
    · exact handSent_lineSound (toQuiet_lineSound (by simp [phase]) sound)
  · exact sound

theorem startBit_lineSound (char : Byte) (bad : Bool) (sound : s.lineSound) :
    State.lineSound { s with port := s.port.startBit char bad } := by
  obtain ⟨fit, lists, ⟨turn, timer, gap, limit, reply⟩, stopping, stack, rolls⟩ := (lineSound_iff s).mp sound
  unfold LinePort.startBit
  dsimp only
  split
  · next phase =>
    rw [lineSound_iff]
    rw [phase] at turn
    refine ⟨fit, lists, ⟨turn, rfl, rfl, rfl, fun h => absurd rfl h⟩, fun _ => by simp, stack, fun q h => rolls q ?_⟩
    exact mem_rolling_congr h rfl (by simp) (by simp [phase])
  · next phase =>
    rw [lineSound_iff]
    rw [phase] at turn timer limit
    refine ⟨fit, lists, ⟨?_, ?_, ?_, ?_, fun h => absurd phase h⟩, stopping, stack, rolls⟩
    · rw [phase]; exact turn
    · rw [phase]; exact timer
    · rw [phase]; rfl
    · rw [phase]; exact limit
  all_goals exact sound

/-! ### The stop (R138) -/

theorem stopEnrolment_fields (e : Engine) : e.stopEnrolment.errands = e.errands ∧ e.stopEnrolment.strays = e.strays ∧
    (e.stopEnrolment.stack = [Prefix.empty] ∨ e.stopEnrolment.stack = []) := by
  unfold Engine.stopEnrolment
  split
  · exact ⟨rfl, rfl, .inr rfl⟩
  · split
    · exact ⟨rfl, rfl, .inl rfl⟩
    · exact ⟨rfl, rfl, .inr rfl⟩

/-- R138: whatever the stop in progress, a line with its errands, lists and port sound is sound once it completes. -/
theorem completeStop_lineSound (fit : s.engine.errandsFit) (lists : s.engine.listsFit) (port : s.port.sound)
    (rolls : ∀ q ∈ s.port.rolling, q.sound) : s.completeStop.lineSound := by
  have unqueued := LineKept.of_exceptTable (unqueueMutes_exceptTable s)
  have engine : s.unqueueMutes.engine = s.engine :=
    block_of_blank State.engine State.exceptTable (by rintro ⟨⟩; rfl) (unqueueMutes_exceptTable s)
  obtain ⟨-, strays, stack⟩ := stopEnrolment_fields s.engine
  obtain ⟨-, -, places, nodup, -⟩ := lists
  have emptied : stackSound s.engine.stopEnrolment.stack ∧ ∀ q ∈ s.port.rolling, rollSound q s.engine.stopEnrolment.stack := by
    rcases stack with empty | none
    · rw [empty]; exact ⟨stackSound_empty, fun q h => rollSound_empty (rolls q h)⟩
    · rw [none]; exact ⟨stackSound_nil, fun q h => rollSound_nil (rolls q h)⟩
  rw [completeStop_eq]
  generalize s.unqueueMutes = t at unqueued engine ⊢
  refine (placeAllWanted_lineKept _).sound ((lineSound_iff _).mpr ?_)
  rw [State.withEngine_engine, State.withEngine_port, unqueued.port, engine]
  refine ⟨errandsFit_of_sublist List.filter_sublist fit, ⟨List.nodup_nil, by simp [Engine.afterStop], ?_, ?_, List.nodup_nil⟩,
    port, fun h => Bool.noConfusion h, emptied⟩
  · rw [afterStop_strays]; exact places
  · rw [afterStop_strays]; exact nodup

/-- R124, R138: the end of a turn. -/
theorem turnOver_of_quiet (quiet : s.port.phase = .quiet) : s.turnOver =
    if s.engine.stopping = true then State.completeStop { s with port := LinePort.atReset }
    else { s with port := LinePort.atReset } := by
  rw [State.turnOver, quiet]

theorem turnOver_of_other (other : s.port.phase ≠ .quiet) : s.turnOver = s := by
  unfold State.turnOver
  split
  · next quiet => exact absurd quiet other
  · rfl

theorem turnOver_lineSound (sound : s.lineSound) : s.turnOver.lineSound := by
  have idle : LinePort.atReset.sound := ⟨rfl, rfl, rfl, rfl, fun _ => ⟨rfl, rfl⟩⟩
  have rolls : ∀ q ∈ LinePort.atReset.rolling, q.sound := fun q h => by cases h
  obtain ⟨fit, lists, -, -, stack, -⟩ := (lineSound_iff s).mp sound
  by_cases quiet : s.port.phase = .quiet
  · rw [turnOver_of_quiet quiet]
    split
    · exact completeStop_lineSound fit lists idle rolls
    · next going => exact (lineSound_iff _).mpr ⟨fit, lists, idle, fun h => absurd h going, stack, fun q h => by cases h⟩
  · rwa [turnOver_of_other quiet]

end

end Sys2Proof.Machine

/-! ## Proofs: every step keeps the line sound -/

namespace Sys2Proof.Machine

section
variable {s u : State}

/-! ### The shed queue (R139, R173) -/

/-- R139: an entry joins the shed queue, or grows. -/
theorem placeShed_listsFit {e : Engine} {c amount : Nat} (least : 1 ≤ c) (most : c ≤ 3) (small : amount ≤ Config.feedBound)
    (fit : e.listsFit) : (e.placeShed c amount).listsFit := by
  obtain ⟨classes, entries, places, nodup, hold⟩ := fit
  by_cases queued : e.sheds.any (fun x => decide (x.cls = c)) = true
  · have sheds : (e.placeShed c amount).sheds =
        e.sheds.map fun x => if x.cls = c then { x with amount := min Config.feedBound (x.amount + amount) } else x :=
      if_pos queued
    refine ⟨?_, fun x h => ?_, places, nodup, hold⟩
    · have same : (e.placeShed c amount).sheds.map ShedEntry.cls = e.sheds.map ShedEntry.cls := by
        rw [sheds, List.map_map]
        refine List.map_congr_left fun x _ => ?_
        simp only [Function.comp]
        split <;> rfl
      rw [same]
      exact classes
    · rw [sheds] at h
      obtain ⟨y, mem, rfl⟩ := List.mem_map.mp h
      obtain ⟨low, high, bound⟩ := entries y mem
      split
      · exact ⟨low, high, Nat.min_le_left _ _⟩
      · exact ⟨low, high, bound⟩
  · have sheds : (e.placeShed c amount).sheds = e.sheds ++ [⟨c, amount⟩] := if_neg queued
    refine ⟨?_, fun x h => ?_, places, nodup, hold⟩
    · rw [sheds, List.map_append]
      refine classes.append (List.nodup_singleton _) ?_
      simpa using queued
    · rw [sheds, List.mem_append, List.mem_singleton] at h
      rcases h with old | rfl
      · exact entries x old
      · exact ⟨least, most, small⟩

theorem shedClass_range {c : Nat} (found : s.shedClass = some c) : 1 ≤ c ∧ c ≤ 3 := by
  have mem := List.mem_of_find?_eq_some found
  simp only [List.mem_cons, List.not_mem_nil, or_false] at mem
  omega

theorem shedRecords_lineKept (l : List (Slot × Service)) (s : State) : LineKept s (s.shedRecords l) :=
  .of_exceptTable (shedRecords_exceptTable l s)

theorem sawShedOrder_lineKept (s : State) : LineKept s s.sawShedOrder :=
  .of_same (lineSide_port (sawShedOrder_lineSide s)) (lineSide_engine (sawShedOrder_lineSide s))

theorem shedPlaced_lineSound {c : Nat} (range : 1 ≤ c ∧ c ≤ 3) (sound : s.lineSound) : (s.shedPlaced c).lineSound :=
  lineSound_engine id (placeShed_listsFit range.1 range.2 (Nat.min_le_left _ _)) rfl rfl
    ((shedRecords_lineKept _ s).sound sound)

theorem frequencyShed_lineSound {c : Nat} (range : 1 ≤ c ∧ c ≤ 3) (sound : s.lineSound) : (s.frequencyShed c).lineSound := by
  have placed := shedPlaced_lineSound range sound
  rw [frequencyShed_eq]
  dsimp only
  split
  · exact lineSound_of_same (s := (s.shedPlaced c).sawShedOrder) rfl rfl ((sawShedOrder_lineKept _).sound placed)
  · exact lineSound_of_same (s := s.shedPlaced c) rfl rfl placed

theorem shedStep_lineSound (sound : s.lineSound) : s.shedStep.lineSound := by
  unfold State.shedStep
  split
  · exact lineSound_of_same (s := State.raise .deficit _) rfl rfl ((raise_lineKept _ _).sound sound)
  · next c found =>
    split
    · exact lineSound_of_same (s := s.frequencyShed c) rfl rfl (frequencyShed_lineSound (shedClass_range found) sound)
    · exact lineSound_of_same (s := State.raise .underfreq _) rfl rfl ((raise_lineKept _ _).sound sound)

theorem countUf_lineSound (under : Bool) (sound : s.lineSound) : (s.countUf under).lineSound := by
  cases trip : s.prot.trip with
  | true => rwa [countUf_of_trip under s trip]
  | false =>
    rw [countUf_eq under s trip]
    dsimp only
    generalize (if under = true then min 3 (s.prot.uf + 1) else 0) = n
    split
    · exact shedStep_lineSound sound
    · exact sound

theorem lineSound_of_lineSide (h : u.lineSide = s.lineSide) : s.lineSound → u.lineSound :=
  lineSound_of_same (lineSide_port h) (lineSide_engine h)

theorem protectionTake_lineSound (c : Completion) (sound : s.lineSound) : (s.protectionTake c).lineSound := by
  unfold State.protectionTake
  dsimp only
  split
  · exact lineSound_of_lineSide (tripOnset_lineSide _) sound
  · exact countUf_lineSound _ sound

theorem complete_lineSound (sense : BitVec 8) (c : Completion) (sound : s.lineSound) : (s.complete sense c).lineSound :=
  complete_keeps State.lineSound sense c (fun _ _ h => h)
    (fun t prev => lineSound_of_lineSide (governorTake_lineSide prev sense c t))
    (fun t => lineSound_of_lineSide (positionerTake_lineSide t)) (fun _ h => h) (fun _ => protectionTake_lineSound c) sound

/-! ### The rows of the line -/

/-- R77: a stray claimed by PROVISION. -/
theorem claim_fits {x : Serial} (n : Slot) {e : Engine} (listed : e.strays.contains x = true) (room : e.claimFull x = false) :
    (e.errandsFit → (e.claim x n).errandsFit) ∧ (e.listsFit → (e.claim x n).listsFit) := by
  have lists : e.listsFit → Engine.listsFit { e with strays := e.strays.filter (fun y => decide (y ≠ x)) } := by
    rintro ⟨classes, entries, places, nodup, hold⟩
    exact ⟨classes, entries, (List.length_filter_le _ _).trans places, nodup.filter _, hold⟩
  unfold Engine.claim
  dsimp only
  split
  · exact ⟨replaceErrand_fit _, lists⟩
  · next free =>
    have placed : e.errandRoom = true := by
      rw [Engine.claimFull, listed, Bool.true_and] at room
      by_contra full
      rw [Bool.eq_false_iff.mpr full, Bool.not_false, Bool.true_and, Bool.not_eq_false'] at room
      exact free (hasErrand_of_hasMute room)
    exact ⟨addErrand_fit (r := .assign x n .claim 0) placed (Bool.eq_false_iff.mpr free), lists⟩

theorem provision_lineSound (n : Slot) (kind : Kind) {x : Serial} (cls limit : Nat) (connect : Bool)
    (room : s.engine.claimFull x = false) (sound : s.lineSound) : (s.provision n kind x cls limit connect).lineSound := by
  have written : LineKept s (s.setRecord n (provisioned kind x cls limit connect)) := .of_same rfl rfl
  have claimed : s.engine.strays.contains x = true →
      ((s.setRecord n (provisioned kind x cls limit connect)).withEngine (Engine.claim x n)).lineSound := fun listed => by
    obtain ⟨errands, lists⟩ := claim_fits n listed room
    have fields : (s.engine.claim x n).stopping = s.engine.stopping ∧ (s.engine.claim x n).stack = s.engine.stack := by
      unfold Engine.claim
      dsimp only
      split <;> exact ⟨rfl, rfl⟩
    exact lineSound_engine errands lists fields.1 fields.2 (written.sound sound)
  unfold State.provision
  dsimp only
  cases kind with
  | gauge =>
    dsimp only
    split
    · next listed => exact lineSound_of_same (s := (s.setRecord n _).withEngine (Engine.claim x n)) rfl rfl (claimed listed)
    · exact sound
  | service =>
    dsimp only
    split
    · next listed => exact claimed listed
    · exact sound

theorem stopLine_lineSound (sound : s.lineSound) : s.stopLine.lineSound := by
  obtain ⟨fit, lists, port, stop, stack, rolls⟩ := (lineSound_iff s).mp sound
  unfold State.stopLine
  split
  · exact completeStop_lineSound (s := s.withEngine fun e => { e with state := .stopped }) fit lists port
      fun q h => (rolls q h).1
  · next busy => exact (lineSound_iff _).mpr ⟨fit, lists, port, fun _ => busy, stack, rolls⟩

theorem restart_lineSound (sound : s.lineSound) :
    (s.withEngine fun e => { e.restart with state := .running }).lineSound := by
  unfold State.withEngine Engine.restart
  dsimp only
  split
  · exact lineSound_restart ⟨rfl, rfl, rfl, rfl, rfl⟩ (.inl rfl) sound
  · exact lineSound_engine id id rfl rfl sound
  · exact lineSound_engine id id rfl rfl sound

theorem stopEnrol_lineSound (sound : s.lineSound) : (s.withEngine Engine.stopEnrol).lineSound := by
  unfold State.withEngine Engine.stopEnrol
  split
  · exact lineSound_restart ⟨rfl, rfl, rfl, rfl, rfl⟩ (.inr rfl) sound
  · exact sound

theorem beginEnrolment_lineSound (kind : EnrolKind) (sound : s.lineSound) :
    (s.withEngine (Engine.beginEnrolment kind)).lineSound :=
  lineSound_restart ⟨rfl, rfl, rfl, rfl, rfl⟩ (.inl rfl) sound

theorem autoEnrol_lineSound (sound : s.lineSound) : s.autoEnrol.lineSound := by
  unfold State.autoEnrol
  split
  · exact beginEnrolment_lineSound .automatic sound
  · exact sound

theorem lineKept_of_exceptAccount (h : u.exceptTable.exceptAccount = s.exceptTable.exceptAccount) : LineKept s u :=
  .of_same (block_of_blank State.port (fun t => t.exceptTable.exceptAccount) (by rintro ⟨⟩; rfl) h)
    (block_of_blank State.engine (fun t => t.exceptTable.exceptAccount) (by rintro ⟨⟩; rfl) h)

theorem LinePart.lineSound (part : LinePart s u) (sound : s.lineSound) : u.lineSound := by
  cases part with
  | provision n kind x cls limit connect vacant fresh room => exact provision_lineSound n kind cls limit connect room sound
  | vacate n => exact (LineKept.of_exceptWater (vacate_exceptWater n s)).sound sound
  | retire n st => exact (retire_lineKept n st s).sound sound
  | linkSilent n => exact (LineKept.of_exceptWater (linkSilent_exceptWater n s)).sound sound
  | silenceLimit n => exact (LineKept.of_exceptTable (silenceLimit_exceptTable n s)).sound sound
  | apply scope sc => exact (lineKept_of_exceptAccount (startApply_exceptAccount scope sc s)).sound sound
  | transmissionOver => exact transmissionOver_lineSound sound
  | windowOver =>
    unfold State.windowOver
    split
    · next phase => exact handOutcome_lineSound _ (by simp [phase]) (by simp [phase]) sound
    · exact sound
  | replyOver =>
    unfold State.replyOver
    split
    · next phase => exact handOutcome_lineSound _ (by simp [phase]) (by simp [phase]) sound
    · exact sound
  | replyTooLong =>
    unfold State.replyTooLong
    split
    · next phase => exact handOutcome_lineSound _ (by simp [phase]) (by simp [phase]) sound
    · exact sound
  | turnOver => exact turnOver_lineSound sound
  | lineStart => exact restart_lineSound sound
  | lineState state => exact lineSound_engine id id rfl rfl sound
  | lineStop => exact stopLine_lineSound sound
  | stopCompletes =>
    obtain ⟨fit, lists, port, -, -, rolls⟩ := (lineSound_iff s).mp sound
    exact completeStop_lineSound fit lists port fun q h => (rolls q h).1
  | abandon x =>
    unfold State.abandonSerial
    split
    · exact abandon_lineSound _ _ sound
    · exact sound
  | enrolStart => exact beginEnrolment_lineSound .byHost sound
  | enrolStop => exact stopEnrol_lineSound sound
  | autoEnrol => exact autoEnrol_lineSound sound
  | rejoinOver => exact lineSound_engine id id rfl rfl sound
  | planLoad bands => exact (raise_lineKept _ _).sound sound
  | _ => exact sound

theorem BareLinePart.lineSound (part : BareLinePart s u) (sound : s.lineSound) : u.lineSound := by
  cases part with
  | recloseDue n => exact (LineKept.of_exceptTable (recloseDue_exceptTable n s)).sound sound
  | liveLimit n => exact (LineKept.of_exceptTable (liveLimit_exceptTable n s)).sound sound
  | applyDone => exact (lineKept_of_exceptAccount (applyDone_exceptAccount s)).sound sound
  | turn => exact chooseTurn_lineSound sound
  | dropStray x =>
    refine lineSound_engine id (fun fit => ?_) rfl rfl sound
    obtain ⟨classes, entries, places, nodup, hold⟩ := fit
    exact ⟨classes, entries, (List.length_filter_le _ _).trans places, nodup.filter _, hold⟩
  | startBit char bad => exact startBit_lineSound char bad sound
  | _ => exact sound

/-! ### Every step -/

theorem rederive_lineKept (s : State) : LineKept s s.rederive :=
  .of_same (block_of_blank State.port (fun t => t.exceptTable.exceptSaw.exceptAccount) (by rintro ⟨⟩; rfl)
      (rederive_exceptAccount s))
    (block_of_blank State.engine (fun t => t.exceptTable.exceptSaw.exceptAccount) (by rintro ⟨⟩; rfl)
      (rederive_exceptAccount s))

theorem restoreTick_lineKept (s : State) : LineKept s s.restoreTick :=
  .of_same (block_of_blank State.port (fun t => t.exceptTable.exceptSaw.exceptAccount) (by rintro ⟨⟩; rfl)
      (restoreTick_exceptAccount s))
    (block_of_blank State.engine (fun t => t.exceptTable.exceptSaw.exceptAccount) (by rintro ⟨⟩; rfl)
      (restoreTick_exceptAccount s))

theorem pruneHold_lineSound (before owner : State) (sound : s.lineSound) : (State.pruneHold before owner s).lineSound :=
  lineSound_engine id (fun fit => hold_listsFit (e := s.engine) rfl rfl (fit.2.2.2.2.sublist List.filter_sublist) fit) rfl rfl
    sound

theorem settle_lineSound (before : State) (sound : s.lineSound) : (State.settle before s).lineSound := by
  have handed := lineSound_of_lineSide (handOver_lineSide before s) sound
  have derived := (rederive_lineKept _).sound handed
  have pruned := pruneHold_lineSound before s derived
  have examined := (lineKept_of_exceptAccount (examineApply_exceptAccount _)).sound pruned
  exact chooseTurn_lineSound (autoEnrol_lineSound examined)

theorem void_lineSound (engine : Engine) (fit : engine.errandsFit) (lists : engine.listsFit) (idle : engine.stopping = false)
    (stack : engine.stack = []) (sound : s.lineSound) : State.lineSound { s with port := s.port.void, engine := engine } := by
  obtain ⟨-, -, ⟨turn, timers⟩, -, -, -⟩ := (lineSound_iff s).mp sound
  have none : s.port.void.rolling = none := by
    unfold LinePort.rolling
    split
    · rfl
    · rfl
    · next eq _ _ =>
      obtain ⟨t, -, void⟩ := Option.map_eq_some_iff.mp eq
      exact absurd (congrArg Turn.void void) (by simp)
    · rfl
  refine (lineSound_iff _).mpr ⟨fit, lists, ⟨Option.isSome_map.trans turn, timers⟩, ?_, ?_, ?_⟩
  · rw [idle]; exact fun h => Bool.noConfusion h
  · rw [stack]; exact stackSound_nil
  · rw [none]; exact fun q h => by cases h

theorem atReset_fits : Engine.atReset.errandsFit ∧ Engine.atReset.listsFit :=
  ⟨⟨Nat.zero_le _, List.nodup_nil⟩, List.nodup_nil, by simp [Engine.atReset], Nat.zero_le _, List.nodup_nil, List.nodup_nil⟩

theorem SettledPart.lineSound (part : SettledPart s u) (sound : s.lineSound) : u.lineSound := by
  have saw : SawPart s u → u.lineSound := fun part => lineSound_of_lineSide part.lineSide sound
  cases part with
  | line part => exact part.lineSound sound
  | complete sense c => exact complete_lineSound sense c sound
  | slowPeriod => exact countUf_lineSound true sound
  | restoreTick => exact (restoreTick_lineKept s).sound sound
  | debounceOver => exact saw .debounceOver
  | waitingOver => exact saw .waitingOver
  | preparingOver => exact saw .preparingOver
  | idleOver => exact saw .idleOver
  | sawGrant d idle least most => exact saw (.sawGrant d idle least most)
  | sawStop => exact saw .sawStop
  | shedStep => exact shedStep_lineSound sound
  | supplyReset =>
    exact lineSound_of_same (State.clearAttn_port _ _) (State.clearAttn_engine _ _)
      (void_lineSound _ atReset_fits.1 atReset_fits.2 rfl rfl sound)

theorem BarePart.lineSound (part : BarePart s u) (sound : s.lineSound) : u.lineSound :=
  part.lineSide.elim (·.lineSound sound) fun side => lineSound_of_lineSide side sound

theorem count_lineSound (sound : s.lineSound) : s.count.lineSound := by
  obtain ⟨fit, lists, ⟨turn, timer, gap, limit, reply⟩, stopping, stack, rolls⟩ := (lineSound_iff s).mp sound
  exact (lineSound_iff _).mpr ⟨fit, lists, ⟨turn, Option.isSome_map.trans timer, Option.isSome_map.trans gap,
    Option.isSome_map.trans limit, reply⟩, stopping, stack, rolls⟩

theorem lineSound_of_reset (port : s.port = LinePort.atReset) (engine : s.engine = Engine.atReset) : s.lineSound := by
  rw [lineSound_iff, port, engine]
  exact ⟨atReset_fits.1, atReset_fits.2, ⟨rfl, rfl, rfl, rfl, fun _ => ⟨rfl, rfl⟩⟩, fun h => Bool.noConfusion h,
    stackSound_nil, fun q h => by cases h⟩

end

theorem lineSound_kept : Kept State.lineSound where
  queue _ _ _ _ _ sound := sound
  count _ _ sound := count_lineSound sound
  bare _ _ _ part sound := part.lineSound sound
  settled s _ _ part sound := settle_lineSound s (part.lineSound sound)
  powerOn _ _ := lineSound_of_reset rfl rfl
  pin _ _ := lineSound_of_reset rfl rfl
  ended s k nomsel shut full engaged _ sound := by
    have side := endReset_lineSide s k nomsel shut full engaged
    exact lineSound_of_same (s := s) (congrArg (·.2.2.1) side) (congrArg (·.2.2.2) side) sound

/-- Settles O56. -/
theorem lineStaysSound : Obligations.LineStaysSound := lineSound_kept.step

end Sys2Proof.Machine

/-! ## Proofs: the machine, its microseconds and what every event keeps -/

namespace Sys2Proof.Machine

/-! ### Steps and answers (O1, O3, O58) -/

/-- Settles O1. -/
theorem stepTakesTheFrontCommand : Obligations.StepTakesTheFrontCommand := fun _ _ _ => rfl

/-- Settles O3: but for the three reset rows, every row acts or leaves the state. -/
theorem everyCommandAnswersANextState : Obligations.EveryCommandAnswersANextState := by
  intro i s
  by_cases powerOn : i = .powerOnReset
  · subst powerOn
    exact ⟨_, rfl⟩
  by_cases pin : i = .pinReset
  · subst pin
    exact ⟨_, rfl⟩
  by_cases ended : ∃ nomsel shut full engaged, i = .resetEnd nomsel shut full engaged
  · obtain ⟨nomsel, shut, full, engaged, rfl⟩ := ended
    exact ⟨_, rfl⟩
  · obtain ⟨f, row⟩ := exec_live i powerOn pin fun a b c d h => ended ⟨a, b, c, d, h⟩
    exact ⟨_, row s⟩

/-- Settles O58. -/
theorem resetStateIsSound : Obligations.ResetStateIsSound :=
  ⟨by decide +kernel, by decide +kernel, by decide +kernel, by decide +kernel, by decide +kernel, emptyTable_sound rfl,
    by decide +kernel, lineSound_of_reset rfl rfl, by decide +kernel⟩

/-! ### A microsecond (O2) -/

theorem mem_chosen {l : List (Bool × Instr)} {c : Instr} : c ∈ chosen l ↔ (true, c) ∈ l := by
  simp [chosen]

theorem runsOut_iff (t : Timer) : runsOut t = true ↔ t = some 1 := decide_eq_true_iff

theorem countDown_of_runsOut {t : Timer} (out : runsOut t = true) : countDown t = some 0 := by
  rw [(runsOut_iff t).mp out]
  rfl

theorem count_onLineService (s : State) (n : Slot) :
    s.count.onLineService n = (s.onLineService n).map fun x => (x.1.count, x.2.count) := by
  unfold State.onLineService
  rw [count_station]
  cases here : s.station n with
  | none => rfl
  | some st =>
    cases service : st.service with
    | none => simp [Station.count, service]
    | some sv =>
      cases line : st.onLine with
      | false =>
        simp only [Option.map_some, Station.count, service, line]
        exact if_neg (Bool.eq_false_iff.mp line)
      | true =>
        have counted : st.count = { st with silence := st.silence.map countUp, service := some sv.count } := by
          rw [Station.count, service, if_pos line, Option.map_some]
        rw [Option.map_some, counted]
        exact (if_pos line).trans (by simp [service, line, ← counted])

/-- R88, R90, R91: what runs out in a record stands at its end once the microsecond is counted. -/
theorem recordDue_atEnd {s : State} {n : Slot} {c : Instr} (due : c ∈ s.recordDue n) : s.count.atEnd c = true := by
  unfold State.recordDue at due
  split at due
  · cases due
  · next st here =>
    rcases List.mem_append.mp due with silent | timed
    · split at silent
      · next t silence =>
        simp only [mem_chosen, List.mem_singleton, Prod.mk.injEq] at silent
        obtain ⟨reaches, rfl⟩ := silent
        have last : t + 1 = Config.longTime := of_decide_eq_true reaches.symm
        have held : countUp t = t := if_neg (by omega)
        refine decide_eq_true ?_
        rw [count_station, here]
        show st.silence.map countUp = _
        rw [silence, Option.map_some, held]
        exact congrArg some (by omega)
      · cases silent
    · split at timed
      · next st' sv line =>
        simp only [mem_chosen, List.mem_cons, List.not_mem_nil, or_false, Prod.mk.injEq] at timed
        rcases timed with ⟨out, rfl⟩ | ⟨reaches, rfl⟩
        · refine decide_eq_true ?_
          rw [count_onLineService, line]
          show some sv.condition.count = _
          have timer := (runsOut_iff _).mp out.symm
          cases condition : sv.condition <;> rw [condition] at timer <;> cases timer
          rfl
        · rw [eq_comm, Bool.and_eq_true] at reaches
          have last : sv.live + 1 = Config.longTime := of_decide_eq_true reaches.2
          have held : countUp sv.live = sv.live := if_neg (by omega)
          refine decide_eq_true ?_
          rw [count_onLineService, line]
          show some (if sv.counting = true then countUp sv.live else sv.live) = _
          rw [if_pos reaches.1, held]
          exact congrArg some (by omega)
      · cases timed

/-- R124: the port's timer is that of its phase. -/
theorem phaseExpiry_atEnd {s : State} {c : Instr} (due : c ∈ s.port.phase.expiry.toList) (out : runsOut s.port.timer = true) :
    s.count.atEnd c = true := by
  have timer : s.count.port.timer = some 0 := countDown_of_runsOut out
  cases phase : s.port.phase <;> simp only [phase, Phase.expiry, Option.toList, List.mem_singleton, List.not_mem_nil] at due
  all_goals
    subst due
    exact decide_eq_true timer

/-- Whatever runs out in a microsecond stands at its end once it is counted. -/
theorem due_atEnd {s : State} {c : Instr} (due : c ∈ s.due) : s.count.atEnd c = true := by
  unfold State.due at due
  rcases List.mem_append.mp due with due | records
  · rcases List.mem_append.mp due with timers | port
    · have timer : ∀ {t : Timer}, runsOut t = true → decide (countDown t = some 0) = true := fun out =>
        decide_eq_true (countDown_of_runsOut out)
      simp only [mem_chosen, List.mem_cons, List.not_mem_nil, or_false, Prod.mk.injEq] at timers
      rcases timers with ⟨out, rfl⟩ | ⟨out, rfl⟩ | ⟨out, rfl⟩ | ⟨out, rfl⟩ | ⟨out, rfl⟩ | ⟨out, rfl⟩ | ⟨out, rfl⟩ | ⟨out, rfl⟩ |
        ⟨out, rfl⟩ | ⟨out, rfl⟩ | ⟨out, rfl⟩ | ⟨out, rfl⟩ | ⟨out, rfl⟩ | ⟨out, rfl⟩ | ⟨out, rfl⟩ | ⟨out, rfl⟩
      case inr.inr.inr.inr.inr.inr.inr.inr.inr.inr.inr.inr.inr.inr.inl =>
        have last : s.prot.settled = .running 1 := of_decide_eq_true out.symm
        exact decide_eq_true (congrArg Settled.count last)
      all_goals exact timer out.symm
    · split at port
      · next out => exact phaseExpiry_atEnd port out
      · cases port
  · obtain ⟨n, -, due⟩ := List.mem_flatMap.mp records
    exact recordDue_atEnd due

/-- The commands of a microsecond join the queue, in whatever order. -/
theorem enqueue_fields (due : List Instr) (s : State) : ∃ l n, l.Perm due ∧
    State.enqueue due s = { s with ranOut := due, pending := s.pending ++ l, choices := n } := by
  unfold State.enqueue
  split
  · exact ⟨due, s.choices, .refl due, rfl⟩
  · exact ⟨_, _, permute_perm _ due, rfl⟩

/-- Settles O2. -/
theorem idleStepCountsOneMicrosecond : Obligations.IdleStepCountsOneMicrosecond := by
  intro s empty
  rw [step_idle s empty]
  refine ⟨fun awake => ?_, fun reset => ?_⟩
  · obtain ⟨l, n, perm, eq⟩ := enqueue_fields s.due s.count
    have queue : s.count.pending = [] := empty
    have tick : s.tick = { s.count with ranOut := s.due, pending := l, choices := n } := by
      rw [State.tick, awake]
      dsimp only
      rw [eq, queue, List.nil_append]
    rw [tick]
    refine ⟨_, rfl, rfl, rfl, rfl, rfl, fun c => perm.mem_iff, rfl, fun c due => ?_⟩
    rw [← Bool.not_eq_true, stale_iff]
    exact fun overtaken => Bool.false_ne_true (overtaken.2.symm.trans (due_atEnd due))
  · obtain ⟨k, resetting⟩ := Option.ne_none_iff_exists'.mp reset
    rw [State.tick, resetting]

end Sys2Proof.Machine

/-! ## Proofs: commands that change nothing, and the crossings of the frequency measurement -/

namespace Sys2Proof.Machine

/-! ### Rows of host commands and of timers (R181, log 2) -/

/-- R181: every row that the host sends is a command with a response code and a bound. -/
theorem exec_command {i : Instr} (sent : (commandBody i).isSome = true) :
    ∃ code bound f, ∀ s, exec i s = command code bound f s := by
  cases i with
  | risingCrossing | silenceTimerExpiry | bankFailedOpen | bankFailedStuck | checkWindowsExhausted | gatePulse
  | endSwitchActivation | pauseTimerExpiry | jamTimerExpiry | trimDecision | holdTimerExpiry | recordLinkSilent
  | silenceTimeLimit | recloseTimerExpiry | liveTimeLimit | applyComplete | restoreTick | transmissionEnd
  | replyWindowTimeout | replyEnd | replyLengthLimit | turnEnd | lineStopCompletion | turnChoice | assignAbandoned
  | automaticEnrollment | rejoinIntervalExpiry | sawEngChange | debounceTimerExpiry | waitingTimerExpiry
  | preparingTimerExpiry | idleTimerExpiry | stuckTimerExpiry | shedStep | shedIntervalExpiry | settledTimerExpiry
  | transactionStart | commandFrameError | notReadyRefusal | responseReady | powerOnReset | pinReset | replyStartBit
  | resetEnd => cases sent
  | _ => exact ⟨_, _, _, fun s => rfl⟩

/-- The rows of the timers look whether their timer still stands at its end; every other row always does. -/
theorem exec_expiry (i : Instr) : (∃ f, ∀ s, exec i s = expiry i f s) ∨ ∀ s : State, s.atEnd i = true := by
  cases i with
  | silenceTimerExpiry | pauseTimerExpiry | jamTimerExpiry | holdTimerExpiry | restoreTick | transmissionEnd
  | replyWindowTimeout | turnEnd | replyEnd | replyLengthLimit | rejoinIntervalExpiry | debounceTimerExpiry
  | waitingTimerExpiry | preparingTimerExpiry | idleTimerExpiry | stuckTimerExpiry | shedIntervalExpiry
  | settledTimerExpiry | responseReady | silenceTimeLimit | recloseTimerExpiry | liveTimeLimit =>
    exact .inl ⟨_, fun s => rfl⟩
  | _ => exact .inr fun s => rfl

/-- The row of a timer that another event has stopped or started again changes nothing (log 2). -/
theorem exec_of_stale {i : Instr} {s : State} (stale : s.stale i = true) : exec i s = .next s := by
  rcases exec_expiry i with ⟨f, row⟩ | always
  · rw [row, expiry_of_stale i f s stale]
  · exact absurd (always s) (Bool.eq_false_iff.mp ((stale_iff i s).mp stale).2)

/-! ### A rising crossing (R2 to R6) -/

theorem classify_eq_accepted_iff (period : Nat) : classify period = .accepted ↔ 6000 ≤ period ∧ period ≤ 33333 := by
  unfold classify
  split_ifs with short slow
  · exact ⟨nofun, fun range => absurd range.1 (Nat.not_le.mpr short)⟩
  · exact ⟨fun _ => ⟨Nat.not_lt.mp short, slow⟩, fun _ => rfl⟩
  · exact ⟨nofun, fun range => absurd range.2 slow⟩

theorem classify_eq_slow_iff (period : Nat) : classify period = .slow ↔ 33333 < period := by
  unfold classify
  split_ifs with short slow
  · exact ⟨nofun, fun long => absurd long (by omega)⟩
  · exact ⟨nofun, fun long => absurd slow (Nat.not_le.mpr long)⟩
  · exact ⟨fun _ => Nat.not_le.mp slow, fun _ => rfl⟩

section

variable {sense : BitVec 8} {s : State} {t r : BitVec 24}

/-- R2: in Lost a crossing becomes the reference of an empty window. -/
theorem crossing_of_lost (lost : s.fmu.state = .lost) : s.crossing sense = { s with fmu := { s.fmu with
    reference := some s.fmu.timebase, window := [], state := .acquiring, silence := some 100000 } } := by
  rw [State.crossing, lost]
  rfl

/-- R11: after a signal loss the first crossing is a reference alone. -/
theorem crossing_of_noReference (live : s.fmu.state ≠ .lost) (empty : s.fmu.reference = none) :
    s.crossing sense = { s with fmu := { s.fmu with reference := some s.fmu.timebase, silence := some 100000 } } := by
  rw [State.crossing, empty]
  cases state : s.fmu.state with
  | lost => exact absurd state live
  | acquiring => rfl
  | tracking => rfl

theorem accept_of_short {period : Nat} (short : s.fmu.window.length < 3) : s.accept sense t period =
    { s with fmu := { s.fmu with reference := some t, window := s.fmu.window ++ [period] } } := by
  rw [State.accept]
  dsimp only
  exact if_pos (by rw [List.length_append]; exact Nat.succ_lt_succ short)

/-- R5: the fourth period ends the window. -/
theorem accept_of_full {period : Nat} (full : 3 ≤ s.fmu.window.length) : s.accept sense t period =
    settled (State.complete sense (completionOf (s.fmu.window.sum + period) s.fmu.state))
      { s with fmu := { s.fmu with
          reference := some t
          window := []
          lastF := some (carriedFrequency (s.fmu.window.sum + period))
          flag := rangeFlag (s.fmu.window.sum + period)
          state := .tracking } } := by
  have sum : (s.fmu.window ++ [period]).sum = s.fmu.window.sum + period := by simp
  rw [State.accept]
  dsimp only
  rw [sum]
  exact if_neg (by rw [List.length_append]; exact Nat.not_lt.mpr (Nat.succ_le_succ full))

theorem measure_of_accepted (range : 6000 ≤ periodOf t r ∧ periodOf t r ≤ 33333) :
    s.measure sense t r = s.accept sense t (periodOf t r) := by
  rw [State.measure, (classify_eq_accepted_iff _).mpr range]

theorem measure_of_slow (slow : 33333 < periodOf t r) : s.measure sense t r = s.slow t := by
  rw [State.measure, (classify_eq_slow_iff _).mpr slow]

/-- The silence timer and what ran out: what a crossing's measurement does not touch. -/
def State.silenceSide (s : State) : Timer × List Instr := (s.fmu.silence, s.ranOut)

theorem settle_silenceSide (before s : State) : (State.settle before s).silenceSide = s.silenceSide :=
  block_of_blank State.silenceSide State.ownerBlocks (by rintro ⟨⟩; rfl) (settle_ownerBlocks before s)

theorem complete_silenceSide (sense : BitVec 8) (c : Completion) (s : State) : (s.complete sense c).silenceSide = s.silenceSide :=
  block_of_blank State.silenceSide (fun t => t.exceptTable.windowBlocks) (by rintro ⟨⟩; rfl) (complete_windowBlocks sense c s)

theorem slowPeriod_silenceSide (s : State) : s.slowPeriod.silenceSide = s.silenceSide :=
  block_of_blank State.silenceSide State.shedBlocks (by rintro ⟨⟩; rfl) (slowPeriod_shedBlocks s)

theorem measure_silenceSide (sense : BitVec 8) (s : State) (t r : BitVec 24) :
    (s.measure sense t r).silenceSide = s.silenceSide := by
  unfold State.measure
  split
  · rfl
  · rcases Nat.lt_or_ge s.fmu.window.length 3 with short | full
    · rw [accept_of_short short]
      rfl
    · rw [accept_of_full full]
      exact (settle_silenceSide _ _).trans (complete_silenceSide _ _ _)
  · exact (settle_silenceSide _ _).trans (slowPeriod_silenceSide _)

/-- R10: whatever a crossing is, it restarts the silence timer. -/
theorem crossing_silenceSide (sense : BitVec 8) (s : State) : (s.crossing sense).silenceSide = (some 100000, s.ranOut) := by
  by_cases lost : s.fmu.state = .lost
  · rw [crossing_of_lost lost]
    rfl
  · cases reference : s.fmu.reference with
    | none =>
      rw [crossing_of_noReference lost reference]
      rfl
    | some r =>
      rw [State.crossing_of_reference sense s r lost reference, measure_silenceSide]
      rfl

end

/-- A drive decision within a run keeps its jam timer or, where the run ends, stops it. -/
theorem decide_jam {g : Gate} (run : g.drive = .opening ∨ g.drive = .closing) (running : g.jam ≠ some 0) :
    g.decide.jam ≠ some 0 := by
  rcases run with opening | closing
  · rw [decide_of_opening opening]
    split
    · nofun
    · exact running
  · rw [decide_of_closing closing]
    split
    · nofun
    · exact running

/-- R47: a pulse of a run leaves the jam timer restarted or, where the run ends with it, stopped. -/
theorem pulse_jam {g : Gate} (driving : g.driving = true) : g.pulse.jam ≠ some 0 := by
  unfold Gate.pulse
  dsimp only
  split
  · next opening =>
    split_ifs
    · nofun
    · exact decide_jam (.inl opening) nofun
    · nofun
  · next closing =>
    split_ifs
    · nofun
    · exact decide_jam (.inr closing) nofun
    · nofun
  all_goals next stopped => rw [Gate.driving, stopped] at driving; cases driving

/-- Settles O4. -/
theorem refusedAndIgnoredCommandsChangeNothing : Obligations.RefusedAndIgnoredCommandsChangeNothing := by
  intro i s
  refine ⟨fun awake refuses sent => ?refused, fun reset powerOn pin ended => ?inReset, fun _ stale => exec_of_stale stale,
    fun sense awake ranOut => ?crossing, fun awake driving ranOut => ?pulse, fun samples stop awake seen => ?startBit⟩
  case refused =>
    obtain ⟨code, bound, f, row⟩ := exec_command sent
    rw [row, command_refused code bound f s awake refuses]
    rfl
  case inReset =>
    obtain ⟨k, resetting⟩ := Option.ne_none_iff_exists'.mp reset
    obtain ⟨f, row⟩ := exec_live i powerOn pin ended
    rw [row, live_in_reset f s k resetting]
  case crossing =>
    obtain ⟨silence, ran⟩ := Prod.mk.inj (crossing_silenceSide sense s)
    refine ⟨_, live_of_awake (State.crossing sense) s awake, exec_of_stale ((stale_iff _ _).mpr ⟨ran ▸ ranOut, ?_⟩)⟩
    rw [State.atEnd, silence]
    rfl
  case pulse =>
    exact ⟨_, live_of_awake (fun s => { s with gate := s.gate.pulse }) s awake,
      exec_of_stale ((stale_iff _ _).mpr ⟨ranOut, decide_eq_false (pulse_jam driving)⟩)⟩
  case startBit =>
    have row : exec (.replyStartBit samples stop) s = .next { s with port := s.port.startBit (characterOf samples) (!stop) } :=
      (live_of_awake _ s awake).trans (congrArg _ (if_pos seen))
    have continued : ∀ {timeout : Instr} {p : LinePort}, timeout ∈ s.ranOut → { s with port := p }.atEnd timeout = false →
        exec timeout { s with port := p } = .next { s with port := p } :=
      fun ranOut running => exec_of_stale ((stale_iff _ _).mpr ⟨ranOut, running⟩)
    refine ⟨fun phase ranOut => ⟨_, row, ?_, continued ranOut ?_⟩, fun phase ranOut => ⟨_, row, ?_, continued ranOut ?_⟩⟩
    all_goals
      simp only [State.atEnd, LinePort.startBit, phase]
    all_goals rfl

end Sys2Proof.Machine

/-! ## Proofs: what follows within an event, crossings, and the windows of the frequency measurement -/

namespace Sys2Proof.Machine

/-! ### What an event's end leaves of the table and the push hold set (O5) -/

/-- What the account's passes leave of a record: its serial, lifecycle and acknowledged settings. -/
def Station.owned (st : Station) : Serial × Life × Option (Option Settings) := (st.serial, st.life, st.service.map Service.ack)

/-- What the owner's part of the event has of a slot. -/
def State.ownedAt (n : Slot) (s : State) : Option (Serial × Life × Option (Option Settings)) := (s.station n).map Station.owned

theorem markChanged_station (n k : Slot) (s : State) : (s.markChanged n).station k = s.station k := by
  cases flag : (s.record n).changed with
  | true => rw [markChanged_of_set n s flag]
  | false =>
    rw [markChanged_of_clear n s flag]
    show ((s.setRecord n ⟨true, (s.record n).station⟩).record k).station = _
    by_cases same : n = k
    · subst same
      rw [record_setRecord_self]
      rfl
    · rw [record_setRecord_ne _ _ _ _ same]
      rfl

theorem setStation_station_self (n : Slot) (st : Station) (s : State) : (s.setStation n st).station n = some st :=
  station_setRecord_self n _ s

theorem setStation_station_ne {n k : Slot} (other : n ≠ k) (st : Station) (s : State) :
    (s.setStation n st).station k = s.station k :=
  station_setRecord_ne n k _ s other

/-- R92: a shed request moves the condition alone. -/
theorem shedRequest_ownedAt (freq : Bool) (n k : Slot) (s : State) : (s.shedRequest freq n).ownedAt k = s.ownedAt k := by
  unfold State.shedRequest
  split
  · next st sv line =>
    obtain ⟨here, service, -⟩ := (onLineService_iff s n st sv).mp line
    split
    · rw [State.ownedAt, markChanged_station, State.setService]
      by_cases same : n = k
      · subst same
        rw [setStation_station_self, State.ownedAt, here]
        simp only [Option.map_some, Station.owned, service]
      · rw [setStation_station_ne same]
        rfl
    · rfl
  · rfl

theorem curtailRecord_ownedAt (c : Nat) (n k : Slot) (s : State) : (s.curtailRecord c n).ownedAt k = s.ownedAt k := by
  unfold State.curtailRecord
  split
  · split
    · exact shedRequest_ownedAt false n k s
    · rfl
  · rfl

theorem ownedAt_of_table {s u : State} (table : u.table = s.table) (k : Slot) : u.ownedAt k = s.ownedAt k := by
  unfold State.ownedAt State.station State.record
  rw [table]

theorem curtailClass_ownedAt (c : Nat) (k : Slot) (s : State) : (s.curtailClass c).ownedAt k = s.ownedAt k := by
  have records : (slots.foldl (State.curtailRecord c) s).ownedAt k = s.ownedAt k :=
    foldl_keeps _ _ _ _ fun t n => curtailRecord_ownedAt c n k t
  rw [curtailClass_eq]
  generalize slots.foldl (State.curtailRecord c) s = t at records ⊢
  split
  · refine (ownedAt_of_table ?_ k).trans records
    unfold State.sawShedOrder
    split <;> rfl
  · exact records

theorem curtail_ownedAt (k : Slot) (s : State) : s.curtail.ownedAt k = s.ownedAt k := by
  have classes : ∀ l : List Nat, (l.foldl (fun t c => if t.short then t.curtailClass c else t) s).ownedAt k = s.ownedAt k :=
    fun l => foldl_keeps _ _ _ _ fun t c => by
      split
      · exact curtailClass_ownedAt c k t
      · rfl
  have marked : ∀ t : State, t.markUnresolvable.ownedAt k = t.ownedAt k := fun t => by
    unfold State.markUnresolvable
    split <;> rfl
  unfold State.curtail
  dsimp only
  split
  · exact (marked _).trans (classes _)
  · exact classes _

theorem rederive_ownedAt (k : Slot) (s : State) : s.rederive.ownedAt k = s.ownedAt k := by
  have pass : s.enterOver.ownedAt k = s.ownedAt k := (curtail_ownedAt k _).trans (ownedAt_of_table rfl k)
  unfold State.rederive
  dsimp only
  split_ifs
  · rfl
  · exact pass
  · exact (ownedAt_of_table rfl k).trans pass
  · exact ownedAt_of_table rfl k
  · rfl

theorem exceptMute_owned (st : Station) : st.exceptMute.owned = st.owned := rfl

theorem exceptMute_pushPending (st : Station) : st.exceptMute.pushPending = st.pushPending := rfl

theorem targetAt_eq (s : State) (n : Slot) : s.targetAt n = ((s.station n).map fun st => st.service.map st.target).join := by
  unfold State.targetAt
  cases s.station n <;> rfl

/-- Records that differ in their mute errands alone look the same to every view that does not see those. -/
theorem view_of_exceptMute {α : Type} {a b : Option Station} (view : Station → α)
    (blind : ∀ st : Station, view st.exceptMute = view st) (same : a.map Station.exceptMute = b.map Station.exceptMute) :
    a.map view = b.map view := by
  have through : ∀ o : Option Station, o.map view = (o.map Station.exceptMute).map view := fun o => by
    rw [Option.map_map]
    exact congrArg (fun f => o.map f) (funext fun st => (blind st).symm)
  rw [through a, same, ← through]

/-- After the push hold set is pruned, the rest of an event's end leaves it and what it looks at. -/
theorem settle_of_pruned (before s : State) :
    ∃ r : State, (∀ n, r.ownedAt n = s.ownedAt n) ∧ r.engine = s.engine ∧
      (State.settle before s).engine.hold = (State.pruneHold before s r).engine.hold ∧
      ∀ n, ((State.settle before s).station n).map Station.exceptMute = (r.station n).map Station.exceptMute := by
  have handed := handOver_lineSide before s
  refine ⟨(State.ceilingChange before (State.levelEvent before s)).rederive, fun n => ?_, ?_, ?_, fun n => ?_⟩
  · exact (rederive_ownedAt n _).trans (ownedAt_of_table (lineSide_table handed) n)
  · exact (block_of_blank State.engine (fun t => t.exceptTable.exceptSaw.exceptAccount) (by rintro ⟨⟩; rfl)
      (rederive_exceptAccount _)).trans (lineSide_engine handed)
  all_goals
    unfold State.settle
    generalize (State.ceilingChange before (State.levelEvent before s)).rederive = r
    have table := examineApply_table (State.pruneHold before s r)
    have engine : (State.pruneHold before s r).examineApply.engine = (State.pruneHold before s r).engine :=
      block_of_blank State.engine (fun t => t.exceptTable.exceptAccount) (by rintro ⟨⟩; rfl) (examineApply_exceptAccount _)
    generalize (State.pruneHold before s r).examineApply = a at table engine ⊢
  · have turn : a.autoEnrol.chooseTurn.engine.hold = a.autoEnrol.engine.hold :=
      show a.autoEnrol.chooseTurn.engine.exceptQueues.hold = _ by rw [(chooseTurn_queuesOnly a.autoEnrol).engine]; rfl
    rw [turn, ← engine]
    unfold State.autoEnrol
    split <;> rfl
  · rw [(chooseTurn_queuesOnly a.autoEnrol).station n]
    have enrolled : a.autoEnrol.table = a.table := by
      unfold State.autoEnrol
      split <;> rfl
    unfold State.station State.record
    rw [enrolled, table]
    rfl

theorem stillHeld_iff (before owner s : State) (n : Slot) : State.stillHeld before owner s n = true ↔
    (s.station n).map Station.pushPending = some true ∧
      s.targetAt n = if n ∈ before.engine.hold then before.targetAt n else owner.targetAt n := by
  have held : State.heldTarget before owner n = if n ∈ before.engine.hold then before.targetAt n else owner.targetAt n := by
    simp only [State.heldTarget, List.contains_iff_mem]
  unfold State.stillHeld
  rw [held]
  cases s.station n with
  | none => simp
  | some st => simp

/-- Settles O5. -/
theorem settleKeepsTheOwnersBlocks : Obligations.SettleKeepsTheOwnersBlocks := by
  intro before s
  obtain ⟨r, owned, engine, hold, alike⟩ := settle_of_pruned before s
  have block {α : Type} (b : State → α) (left : ∀ u : State, b u.ownerBlocks = b u) : b (State.settle before s) = b s :=
    block_of_blank b State.ownerBlocks left (settle_ownerBlocks before s)
  refine ⟨block _ (by rintro ⟨⟩; rfl), block _ (by rintro ⟨⟩; rfl), block _ (by rintro ⟨⟩; rfl), block _ (by rintro ⟨⟩; rfl),
    block _ (by rintro ⟨⟩; rfl), block _ (by rintro ⟨⟩; rfl), block _ (by rintro ⟨⟩; rfl), block _ (by rintro ⟨⟩; rfl),
    block _ (by rintro ⟨⟩; rfl), block _ (by rintro ⟨⟩; rfl), block _ (by rintro ⟨⟩; rfl), fun n => ?_⟩
  have view : ((State.settle before s).station n).map Station.owned = (s.station n).map Station.owned :=
    (view_of_exceptMute Station.owned exceptMute_owned (alike n)).trans (owned n)
  have part {α : Type} (f : Serial × Life × Option (Option Settings) → α) :
      ((State.settle before s).station n).map (fun st => f st.owned) = (s.station n).map fun st => f st.owned := by
    have through := congrArg (Option.map f) view
    rwa [Option.map_map, Option.map_map] at through
  have pending := view_of_exceptMute Station.pushPending exceptMute_pushPending (alike n)
  have target : (State.settle before s).targetAt n = r.targetAt n := by
    have through := congrArg Option.join
      (view_of_exceptMute (fun st => st.service.map st.target) (fun _ => rfl) (alike n))
    rw [targetAt_eq, targetAt_eq, through]
  refine ⟨part Prod.fst, part fun x => x.2.1, part fun x => x.2.2, ?_⟩
  rw [hold, mem_pruneHold, stillHeld_iff, engine, pending, target]

end Sys2Proof.Machine

/-! ## Proofs: the periods, the windows and the silence of the frequency measurement -/

namespace Sys2Proof.Machine

/-- R10: outside Lost the silence timer's end is the loss of the signal. -/
theorem silenceOver_of_live {s : State} (live : s.fmu.state ≠ .lost) : s.silenceOver =
    { s with
      fmu := { s.fmu with state := .lost, window := [], reference := none, silence := none }
      prot := { s.prot with settled := .stopped, uf := 0 }
      attn := s.attn ||| 0x0010 } := by
  unfold State.silenceOver
  cases state : s.fmu.state with
  | lost => exact absurd state live
  | acquiring => rfl
  | tracking => rfl

/-- Settles O7. -/
theorem crossingsAndSilenceBeforeAFullWindow : Obligations.CrossingsAndSilenceBeforeAFullWindow := by
  intro sense s awake
  have row : exec (.risingCrossing sense) s = .next (s.crossing sense) := live_of_awake _ s awake
  refine ⟨fun lost => ?_, fun live empty => ?_, fun r live reference low high short => ?_, fun live fresh => ?_⟩
  · rw [row, crossing_of_lost lost]
  · rw [row, crossing_of_noReference live empty]
  · rw [row, State.crossing_of_reference sense s r live reference, measure_of_accepted ⟨low, high⟩,
      accept_of_short (s := { s with fmu := { s.fmu with silence := some Config.silenceTime } }) short]
    rfl
  · rw [← silenceOver_of_live live]
    exact expiry_of_fresh .silenceTimerExpiry State.silenceOver s awake fresh

/-! ### Slow periods (R6, R171, R175) -/

theorem settle_gov (before s : State) : (State.settle before s).gov = s.gov :=
  block_of_blank State.gov State.ownerBlocks (by rintro ⟨⟩; rfl) (settle_ownerBlocks before s)

/-- A window that brings the count to no more than 2 takes no shed step. -/
theorem countUf_of_few {s : State} (free : s.prot.trip = false) (few : s.prot.uf < 2) :
    s.countUf true = { s with prot := { s.prot with uf := s.prot.uf + 1 } } := by
  have counted : min 3 (s.prot.uf + 1) = s.prot.uf + 1 := by omega
  rw [countUf_eq true s free]
  dsimp only
  rw [if_pos rfl, counted]
  refine if_neg fun due => ?_
  simp only [Protection.stepDue, Bool.and_eq_true, decide_eq_true_eq] at due
  omega

theorem countUf_settled (under : Bool) (s : State) : (s.countUf under).prot.settled = s.prot.settled := by
  cases trip : s.prot.trip with
  | true => rw [countUf_of_trip under s trip]
  | false =>
    rw [countUf_eq under s trip]
    dsimp only
    generalize hn : (if under = true then min 3 (s.prot.uf + 1) else 0) = n
    split
    · obtain ⟨o, prot⟩ := shedStep_prot { s with prot := { s.prot with uf := n } }
      rw [prot]
    · rfl

theorem slowPeriod_fmu (s : State) : s.slowPeriod.fmu = s.fmu :=
  block_of_blank State.fmu State.shedBlocks (by rintro ⟨⟩; rfl) (slowPeriod_shedBlocks s)

theorem slowPeriod_gov (s : State) : s.slowPeriod.gov = s.gov :=
  block_of_blank State.gov State.shedBlocks (by rintro ⟨⟩; rfl) (slowPeriod_shedBlocks s)

theorem slowPeriod_uf_of_few (s : State) (free : s.prot.trip = false) (few : s.prot.uf < 2) :
    s.slowPeriod.prot.uf = s.prot.uf + 1 := by
  rw [State.slowPeriod, countUf_of_few (s := { s with prot := { s.prot with settled := .stopped } }) free few]

theorem slowPeriod_uf_of_trip (s : State) (trip : s.prot.trip = true) : s.slowPeriod.prot.uf = s.prot.uf := by
  rw [State.slowPeriod, countUf_of_trip true { s with prot := { s.prot with settled := .stopped } } trip]

/-- Settles O8. -/
theorem fourthAndSlowPeriodsEndTheWindow : Obligations.FourthAndSlowPeriodsEndTheWindow := by
  intro sense s r awake live reference
  have row : exec (.risingCrossing sense) s =
      .next ({ s with fmu := { s.fmu with silence := some 100000 } }.measure sense s.fmu.timebase r) :=
    (live_of_awake _ s awake).trans (congrArg _ (State.crossing_of_reference sense s r live reference))
  refine ⟨fun low high full => ?fourth, fun slow => ?slow⟩
  case fourth =>
    rw [row, measure_of_accepted ⟨low, high⟩,
      accept_of_full (s := { s with fmu := { s.fmu with silence := some 100000 } }) (Nat.le_of_eq full.symm)]
    refine ⟨_, _, permute_perm (Config.receiverOrder s.choices) receivers, rfl, rfl, ?_⟩
    exact (settle_fmu _ _).trans (block_of_blank State.fmu (fun t => t.exceptTable.windowBlocks) (by rintro ⟨⟩; rfl)
      (complete_windowBlocks sense (completionOf (s.fmu.window.sum + (s.fmu.timebase - r).toNat) s.fmu.state) _))
  case slow =>
    rw [row, measure_of_slow slow]
    refine ⟨_, rfl, ?_⟩
    rw [State.slow, settled, settle_fmu, settle_prot, settle_gov]
    refine ⟨?_, ?_, ?_, fun free few => ?_, fun trip => ?_⟩
    · rw [slowPeriod_fmu]
    · exact countUf_settled true _
    · rw [slowPeriod_gov]
    · exact slowPeriod_uf_of_few _ free few
    · exact slowPeriod_uf_of_trip _ trip

end Sys2Proof.Machine

/-! ## Proofs: the commands and timers of the station table (05_the_station_table.md) -/

namespace Sys2Proof.Machine

theorem setService_eq (n : Slot) (st : Station) (sv : Service) (s : State) : s.setService n st sv =
    { s with table := s.table.set n ⟨(s.record n).changed, some { st with service := some sv }⟩ } := rfl

/-- R94: a record that is written and marked changed; where its flag was clear, STATION is raised. -/
theorem setStation_markChanged (n : Slot) (st : Station) (s : State) : (s.setStation n st).markChanged n = { s with
    table := s.table.set n ⟨true, some st⟩
    attn := if (s.record n).changed then s.attn else s.attn ||| 0x1000 } := by
  have record : (s.setStation n st).record n = ⟨(s.record n).changed, some st⟩ := record_setRecord_self n _ s
  cases flag : (s.record n).changed with
  | true =>
    rw [markChanged_of_set n _ (by rw [record, flag]), setStation_eq, flag]
    rfl
  | false =>
    rw [markChanged_of_clear n _ (by rw [record, flag]), record]
    simp [State.setStation, State.setRecord, State.raise, Attn.bit]

theorem onLineService_of {s : State} {n : Slot} {st : Station} {sv : Service} (here : s.station n = some st)
    (service : st.service = some sv) (line : st.onLine = true) : s.onLineService n = some (st, sv) :=
  (onLineService_iff s n st sv).mpr ⟨here, service, line⟩

theorem enrolledService_of {s : State} {n : Slot} {st : Station} {sv : Service} (here : s.station n = some st)
    (service : st.service = some sv) (enrolled : st.life = .enrolled) : s.enrolledService n = some (st, sv) :=
  (enrolledService_iff s n st sv).mpr ⟨here, service, enrolled⟩

/-- A command that names a slot of the table. -/
theorem slotCommand_of {slot : Byte} {n : Slot} (named : slotOf slot = some n) (f : State → Slot → State × Reply) (s : State) :
    slotCommand slot f s = f s n := by
  rw [slotCommand, named]

/-! ### PROVISION and EDIT (R77, R78) -/

theorem classOf_of_le {b : Byte} (range : b.toNat ≤ 3) : classOf b = some b.toNat := if_pos range

theorem limitOf_of_le {h : Half} (range : h.toNat ≤ 2000) : limitOf h = some h.toNat := if_pos range

theorem flagOf_of_bit {b : Byte} (bit : b = 0 ∨ b = 1) : flagOf b = some (decide (b = 1)) := by
  rcases bit with rfl | rfl <;> rfl

theorem holder_eq_none {s : State} {x : Serial} (free : ∀ m st, s.station m = some st → st.serial ≠ x) : s.holder x = none := by
  refine List.find?_eq_none.mpr fun m _ => ?_
  cases here : s.station m with
  | none => exact Bool.false_ne_true
  | some st => exact fun same => free m st here (of_decide_eq_true same)

theorem holder_isSome {s : State} {x : Serial} (held : ∃ m st, s.station m = some st ∧ st.serial = x) :
    (s.holder x).isSome = true := by
  obtain ⟨m, st, here, same⟩ := held
  refine List.find?_isSome.mpr ⟨m, List.mem_finRange m, ?_⟩
  rw [here]
  exact decide_eq_true same

theorem gaugeSlot_eq_none {s : State} (free : ∀ m st, s.station m = some st → st.kind ≠ .gauge) : s.gaugeSlot = none := by
  refine List.find?_eq_none.mpr fun m _ => ?_
  cases here : s.station m with
  | none => exact Bool.false_ne_true
  | some st => exact fun same => free m st here (of_decide_eq_true same)

section

variable {slot kind cls connect : Byte} {x : Serial} {limit : Half} {n : Slot} {k : Kind} {s : State}

/-- R77: a PROVISION whose operands are in range answers by the slot, the serial and the room for a claim. -/
theorem exec_provision (taken : s.accepts) (named : slotOf slot = some n) (ofKind : kindOf kind = some k)
    (low : cls.toNat ≤ 3) (small : limit.toNat ≤ 2000) (bit : connect = 0 ∨ connect = 1) (vacant : s.station n = none) :
    exec (.provision slot kind x cls limit connect) s = .next (
      if s.duplicates k x then State.answer 0x32 400 (.plain .duplicate) s
      else if s.engine.claimFull x then State.answer 0x32 400 (.plain .full) s
      else State.answer 0x32 400 (.plain .done)
        (State.settle s (s.provision n k x cls.toNat limit.toNat (decide (connect = 1))))) := by
  refine (exec_of_command (i := .provision slot kind x cls limit connect) taken
    (show exec _ s = execProvision slot kind x cls limit connect s from rfl)).trans (congrArg _ ?_)
  simp only [State.provisionCommand, named, ofKind, classOf_of_le low, limitOf_of_le small, flagOf_of_bit bit, vacant,
    Option.isSome_none, Bool.false_eq_true, if_false]
  split_ifs <;> rfl

theorem not_claimFull_of_room (room : s.engine.errands.length < 4) : s.engine.claimFull x = false := by
  have free : s.engine.errandRoom = true := decide_eq_true room
  rw [Engine.claimFull, free, Bool.not_true, Bool.and_false, Bool.false_and]

theorem not_claimFull_of_unlisted (unlisted : x ∉ s.engine.strays) : s.engine.claimFull x = false := by
  rw [Engine.claimFull, Bool.eq_false_iff.mpr (mt List.contains_iff_mem.mp unlisted), Bool.false_and, Bool.false_and]

/-- R77: the record of a serial that is no stray. -/
theorem provision_of_unlisted (unlisted : x ∉ s.engine.strays) (c l : Nat) (con : Bool) :
    s.provision n .service x c l con = { s with table := s.table.set n (provisioned .service x c l con) } ∧
      s.provision n .gauge x c l con =
        { s with table := s.table.set n (provisioned .gauge x c l con), water := s.water.gaugeAppears } := by
  have notContained : ¬ s.engine.strays.contains x = true := mt List.contains_iff_mem.mp unlisted
  unfold State.provision
  dsimp only
  rw [if_neg notContained, if_neg notContained]
  exact ⟨rfl, rfl⟩

/-- R77: a stray that is claimed leaves the list, and its ASSIGN joins the errand queue. -/
theorem provision_of_stray (listed : x ∈ s.engine.strays) (idle : s.engine.hasErrand x = false) (c l : Nat) (con : Bool) :
    s.provision n .service x c l con = { s with
      table := s.table.set n (provisioned .service x c l con)
      engine := { s.engine with
        strays := s.engine.strays.filter (fun y => decide (y ≠ x))
        errands := s.engine.errands ++ [.assign x n .claim 0] } } := by
  have claimed : s.engine.claim x n = { s.engine with
      strays := s.engine.strays.filter (fun y => decide (y ≠ x))
      errands := s.engine.errands ++ [.assign x n .claim 0] } := by
    rw [Engine.claim, idle]
    rfl
  unfold State.provision
  dsimp only
  rw [if_pos (List.contains_iff_mem.mpr listed), State.withEngine, State.setRecord_engine, claimed]
  rfl

theorem duplicates_service (free : ∀ m st, s.station m = some st → st.serial ≠ x) : s.duplicates .service x = false := by
  rw [State.duplicates, holder_eq_none free]
  rfl

theorem duplicates_gauge (free : ∀ m st, s.station m = some st → st.serial ≠ x ∧ st.kind ≠ .gauge) :
    s.duplicates .gauge x = false := by
  rw [State.duplicates, holder_eq_none fun m st here => (free m st here).1,
    gaugeSlot_eq_none fun m st here => (free m st here).2]
  rfl

end

/-- R78: EDIT stages a plan for a Service record that is not Retiring. -/
theorem exec_edit_of_staged {slot cls : Byte} {limit : Half} {n : Slot} {st : Station} {sv : Service} {s : State}
    (taken : s.accepts) (named : slotOf slot = some n) (low : cls.toNat ≤ 3) (small : limit.toNat ≤ 2000)
    (here : s.station n = some st) (service : st.service = some sv) (stays : st.life ≠ .retiring) :
    exec (.edit slot limit cls) s = .next (State.answer 0x33 100 (.plain .done)
      (s.setService n st { sv with staged := some ⟨limit.toNat, cls.toNat, false⟩ })) := by
  refine (exec_of_command (i := .edit slot limit cls) taken (show exec _ s = execEdit slot limit cls s from rfl)).trans ?_
  simp only [State.editCommand, named, limitOf_of_le small, classOf_of_le low, here, service, if_neg stays]
  rfl

/-- Settles O21. -/
theorem provisionAndEditWriteTheRecord : Obligations.ProvisionAndEditWriteTheRecord := by
  intro slot kind cls connect x limit n s taken named low small
  have answered := fun (k : Kind) (ofKind : kindOf kind = some k) (bit : connect = 0 ∨ connect = 1)
    (vacant : s.station n = none) => exec_provision (x := x) taken named ofKind low small bit vacant
  refine ⟨fun service bit vacant free => ⟨fun unlisted => ?_, fun listed idle room => ?_⟩,
    fun gauge bit vacant free unlisted => ?_, fun service bit vacant held => ?_, fun st sv here ofService stays => ?_⟩
  · rw [answered .service (if_pos service) bit vacant,
      if_neg (Bool.eq_false_iff.mp (duplicates_service free)),
      if_neg (Bool.eq_false_iff.mp (not_claimFull_of_unlisted unlisted)), (provision_of_unlisted unlisted _ _ _).1]
    rfl
  · rw [answered .service (if_pos service) bit vacant,
      if_neg (Bool.eq_false_iff.mp (duplicates_service free)),
      if_neg (Bool.eq_false_iff.mp (not_claimFull_of_room room)), provision_of_stray listed idle]
    rfl
  · rw [answered .gauge (gauge ▸ rfl) bit vacant,
      if_neg (Bool.eq_false_iff.mp (duplicates_gauge free)),
      if_neg (Bool.eq_false_iff.mp (not_claimFull_of_unlisted unlisted)), (provision_of_unlisted unlisted _ _ _).2]
    rfl
  · have duplicate : s.duplicates .service x = true := by rw [State.duplicates, holder_isSome held, Bool.true_or]
    rw [answered .service (if_pos service) bit vacant, if_pos duplicate]
  · exact exec_edit_of_staged taken named low small here ofService stays

/-! ### Admission (R100) -/

theorem capacity_of_plan {s : State} {p : WaterPlan} (plan : s.water.plan = some p) :
    s.water.capacity = some (p.band p.inForce).capacity := by
  rw [Water.capacity, plan]
  rfl

theorem room_of_capacity {s : State} {k : Nat} (capacity : s.water.capacity = some k) :
    s.room = some ((k : Int) - (s.account.reserve : Int)) := by
  rw [State.room, capacity]
  rfl

/-- With a capacity the comparator refuses a rise exactly where M, the rise and R exceed it together. -/
theorem admission_of_capacity {s : State} {k : Nat} (x : Nat) (capacity : s.water.capacity = some k) :
    s.admission x = if k < s.committed + x + s.account.reserve then .refused else .granted := by
  unfold State.admission State.overcommitted
  rw [room_of_capacity capacity]
  simp only [decide_eq_true_eq]
  rcases Nat.lt_or_ge k (s.committed + x + s.account.reserve) with exceeds | fits
  · rw [if_pos exceeds]
    split
    · rfl
    · exact if_pos (by omega)
  · rw [if_neg (Nat.not_lt.mpr fits), if_neg (by omega), if_neg (by omega)]

theorem admission_of_absent {s : State} (x : Nat) (absent : s.water.plan = none) : s.admission x = .noplan := by
  rw [State.admission, State.room, Water.capacity, absent]
  rfl

/-- Settles O22. -/
theorem admissionComparesWithTheCapacity : Obligations.AdmissionComparesWithTheCapacity := by
  intro x s
  cases plan : s.water.plan with
  | none =>
    rw [admission_of_absent x plan, Water.capacity, plan]
    simp
  | some p =>
    have capacity := capacity_of_plan plan
    generalize (p.band p.inForce).capacity = k at capacity
    rw [admission_of_capacity x capacity, capacity]
    rcases Nat.lt_or_ge k (s.committed + x + s.account.reserve) with exceeds | fits
    · rw [if_pos exceeds]
      simp [exceeds]
    · rw [if_neg (Nat.not_lt.mpr fits)]
      simp [fits]

/-! ### CLOSE, OPEN and RELEASE (R79 to R81) -/

section

variable {slot : Byte} {n : Slot} {st : Station} {sv : Service} {s : State}

/-- R79, R81: what a command answers whose rise the account judges. -/
theorem admitted_eq (x : Nat) (f : State → State) (s : State) : admitted x f s =
    (if s.admission x = .granted then State.settle s (f s) else s,
      .plain (match s.admission x with | .granted => .done | .refused => .refused | .noplan => .noplan)) := by
  unfold admitted
  cases s.admission x <;> rfl

/-- R79: CLOSE of an Off record. -/
theorem exec_closeSlot (taken : s.accepts) (named : slotOf slot = some n) (here : s.station n = some st)
    (enrolled : st.life = .enrolled) (service : st.service = some sv) (off : sv.condition = .off) :
    exec (.closeSlot slot) s = .next (
      if sv.limit < 10 then State.answer 0x34 100 (.plain .range) s
      else
        let r := admitted sv.limit (fun s => s.setService n st { sv with condition := .connected }) s
        State.answer 0x34 100 r.2 r.1) := by
  refine (exec_of_command (i := .closeSlot slot) taken (show exec _ s = execCloseSlot slot s from rfl)).trans (congrArg _ ?_)
  rw [slotCommand_of named, State.closeCommand, enrolledService_of here service enrolled]
  dsimp only
  rw [off]
  dsimp only
  rw [show Config.leastLimit = 10 from rfl]
  split <;> rfl

/-- R80: OPEN of an Enrolled record. -/
theorem exec_openSlot (taken : s.accepts) (named : slotOf slot = some n) (here : s.station n = some st)
    (enrolled : st.life = .enrolled) (service : st.service = some sv) : exec (.openSlot slot) s =
      .next (State.answer 0x35 100 (.plain .done) (State.settle s (s.setService n st { sv with condition := .off }))) := by
  have stays : st.life ≠ .retiring := by rw [enrolled]; nofun
  refine (exec_of_command (i := .openSlot slot) taken (show exec _ s = execOpenSlot slot s from rfl)).trans (congrArg _ ?_)
  rw [slotCommand_of named, State.openCommand, onLineService_of here service ((onLine_iff st).mpr (.inl enrolled))]
  dsimp only
  rw [if_neg stays]
  rfl

/-- R81: RELEASE of a Tripped or Isolated record that the account admits. -/
theorem exec_releaseSlot (taken : s.accepts) (named : slotOf slot = some n) (here : s.station n = some st)
    (enrolled : st.life = .enrolled) (service : st.service = some sv) (trip : sv.condition.isTrip = true) (large : 10 ≤ sv.limit)
    (granted : s.admission sv.limit = .granted) : exec (.releaseSlot slot) s =
      .next (State.answer 0x36 100 (.plain .done)
        (State.settle s (s.setService n st { sv with condition := .connected, tripCount := false }))) := by
  refine (exec_of_command (i := .releaseSlot slot) taken (show exec _ s = execReleaseSlot slot s from rfl)).trans
    (congrArg _ ?_)
  rw [slotCommand_of named, State.releaseCommand, enrolledService_of here service enrolled]
  dsimp only
  rw [trip, if_neg (by decide), if_neg (Nat.not_lt.mpr large : ¬ sv.limit < Config.leastLimit), admitted_eq, granted]
  rfl

end

/-- Settles O23. -/
theorem closeOpenReleaseMoveTheCondition : Obligations.CloseOpenReleaseMoveTheCondition := by
  intro slot n st sv s taken named here enrolled service
  have close := exec_closeSlot taken named here enrolled service
  refine ⟨fun off large => ?_, fun off small => ?_, exec_openSlot taken named here enrolled service,
    exec_releaseSlot taken named here enrolled service⟩
  · rw [close off, if_neg (Nat.not_lt.mpr large), admitted_eq]
    refine ⟨fun granted => ?_, fun refused => ?_, fun noplan => ?_⟩
    · rw [granted]; rfl
    · rw [refused]; rfl
    · rw [noplan]; rfl
  · rw [close off, if_pos small]

/-! ### RETIRE (R82, R83) -/

section

variable {slot : Byte} {n : Slot} {st : Station} {s : State}

theorem exec_retireSlot (taken : s.accepts) (named : slotOf slot = some n) : exec (.retireSlot slot) s =
    .next (State.answer 0x37 100 (s.retireCommand n).2 (s.retireCommand n).1) := by
  refine (exec_of_command (i := .retireSlot slot) taken (show exec _ s = execRetireSlot slot s from rfl)).trans ?_
  rw [slotCommand_of named]
  rfl

/-- R82: a Service record that still holds a closed breaker is not ready to be muted. -/
theorem retire_of_closed {sv : Service} {a : Settings} (service : st.service = some sv) (ack : sv.ack = some a)
    (closed : a.closed = true) :
    s.retire n st = s.setStation n { st with life := .retiring, mute := .idle, service := some sv.retired } := by
  rw [State.retire, service]
  dsimp only
  rw [State.readyTest, setStation_station_self]
  refine if_neg fun muted => ?_
  simp [Station.ready, Service.retired, ack, closed] at muted

theorem retire_of_gauge (gauge : st.service = none) : s.retire n st = (s.setStation n { st with life := .retiring }).wantMute n := by
  unfold State.retire
  split
  · next service => cases gauge.symm.trans service
  · rfl

/-- R83: a Retiring record whose serial has no errand is Wanted, and its MUTE joins the queue where there is room. -/
theorem wantMute_of_room (here : s.station n = some st) (idle : s.engine.hasErrand st.serial = false)
    (room : s.engine.errands.length < 4) :
    s.wantMute n = (s.setStation n { st with mute := .queued }).withEngine (Engine.addErrand (.mute st.serial)) := by
  have noMute : s.engine.hasMute st.serial = false := by
    refine Bool.eq_false_iff.mpr fun held => ?_
    rw [hasErrand_of_hasMute held] at idle
    cases idle
  have free : s.engine.errandRoom = true := decide_eq_true room
  rw [State.wantMute, setMute_of_some _ here, State.placeWantedMute, setStation_station_self]
  have engine : (s.setStation n { st with mute := .wanted }).engine = s.engine := rfl
  have held : ∀ f, ((s.setStation n { st with mute := .wanted }).withEngine f).station n = some { st with mute := .wanted } :=
    fun _ => setStation_station_self n _ s
  dsimp only
  rw [engine, noMute, idle, free, if_neg Bool.false_ne_true, if_neg Bool.false_ne_true, if_pos rfl, setMute_of_some _ (held _)]
  exact congrArg (State.withEngine · (Engine.addErrand (.mute st.serial))) (setStation_setStation n { st with mute := .wanted }
    { st with mute := .queued } s)

end

/-- Settles O24. -/
theorem retireStartsTheRetirement : Obligations.RetireStartsTheRetirement := by
  intro slot n st s taken named here
  rw [exec_retireSlot taken named, State.retireCommand, here]
  dsimp only
  refine ⟨fun sv service provisioned => ?_, fun sv a service enrolled ack closed => ?_, fun gauge enrolled idle room => ?_,
    fun retiring => ?_⟩
  · rw [provisioned]
    dsimp only
    rw [settled, State.vacate, here]
    dsimp only
    rw [service]
    rfl
  · rw [enrolled]
    dsimp only
    rw [settled, retire_of_closed service ack closed]
    rfl
  · rw [enrolled]
    dsimp only
    rw [settled, retire_of_gauge gauge, wantMute_of_room (setStation_station_self n { st with life := .retiring } s) idle room, setStation_setStation]
    rfl
  · rw [retiring]

/-! ### The times of a record (R88, R90, R91) -/

section

variable {n : Slot} {st : Station} {s : State}

/-- R88: at the third miss the link of an Answering record is Silent, and the level source of a Gauge record that was Live holds. -/
theorem linkSilent_of_third (here : s.station n = some st) (line : st.onLine = true) (answering : st.silence = none)
    (twice : st.missed = 2) : s.linkSilent n = { s with
      table := s.table.set n ⟨true, some { st with missed := 3, silence := some 0 }⟩
      attn := if (s.record n).changed then s.attn else s.attn ||| 0x1000
      water := if st.service = none ∧ s.water.source = .live then { s.water with source := .holding, hold := some 300000000 }
        else s.water } := by
  have third : (st.onLine && st.silence.isNone && Decidable.decide (2 ≤ st.missed)) = true := by
    rw [line, answering, twice]
    rfl
  have marked : (s.setStation n { st with missed := 3, silence := some 0 }).markChanged n = { s with
      table := s.table.set n ⟨true, some { st with missed := 3, silence := some 0 }⟩
      attn := if (s.record n).changed then s.attn else s.attn ||| 0x1000 } := by
    exact setStation_markChanged n _ s
  have silent : ∀ w : Water, w.gaugeSilent = if w.source = .live then { w with source := .holding, hold := some 300000000 }
      else w := fun w => by
    unfold Water.gaugeSilent
    cases w.source <;> rfl
  rw [State.linkSilent, here]
  dsimp only
  rw [if_pos third, State.makeSilent, here]
  dsimp only
  rw [marked]
  cases service : st.service with
  | none =>
    dsimp only
    rw [silent]
    simp only [true_and]
  | some sv => simp only [reduceCtorEq, false_and, if_false]

theorem silenceLimit_of_silent (here : s.station n = some st) (line : st.onLine = true) (silent : st.silence ≠ none) :
    s.silenceLimit n = s.setStation n { st with silence := some 600000000 } := by
  rw [State.silenceLimit, here]
  dsimp only
  exact if_pos (by rw [line, Option.isSome_iff_ne_none.mpr silent]; rfl)

end

/-- Settles O25. -/
theorem recordTimersRunOut : Obligations.RecordTimersRunOut := by
  intro n st s awake here life
  have line : st.onLine = true := (onLine_iff st).mpr life
  refine ⟨fun answering twice => ?_, fun silent fresh => ?_, fun sv service =>
    ⟨fun t enrolled tripped fresh => ?_, fun connected closed fresh => ?_⟩⟩
  · refine (live_of_awake (settled (State.linkSilent n)) s awake).trans ?_
    rw [settled, linkSilent_of_third here line answering twice]
  · refine (expiry_of_fresh (.silenceTimeLimit n) (settled (State.silenceLimit n)) s awake fresh).trans ?_
    rw [settled, silenceLimit_of_silent here line silent]
    rfl
  · refine (expiry_of_fresh (.recloseTimerExpiry n) (State.recloseDue n) s awake fresh).trans ?_
    rw [State.recloseDue, enrolledService_of here service enrolled]
    dsimp only
    rw [tripped]
    rfl
  · refine (expiry_of_fresh (.liveTimeLimit n) (State.liveLimit n) s awake fresh).trans ?_
    have counting : sv.counting = true := by rw [Service.counting, connected, closed]; rfl
    rw [State.liveLimit, onLineService_of here service line]
    dsimp only
    rw [if_pos counting]
    rfl

end Sys2Proof.Machine

/-! ## Proofs: APPLY (06_the_supply_account.md section 6.5) -/

namespace Sys2Proof.Machine

theorem scopeOf_of_large : ∀ scope : Byte, 192 ≤ scope.toNat → scopeOf scope = none := by decide

theorem applyDone_of_completed {s : State} {a : Apply} (flying : s.account.apply = some a) (none : a.count .pending = 0) :
    s.applyDone = { s with
      account := { s.account with apply := .none, last := some ⟨a.marks.length, a.deferred, a.count .unconfirmed⟩ }
      attn := s.attn ||| 0x0200 } := by
  rw [State.applyDone, flying]
  exact if_pos none

/-- Settles O26. -/
theorem applyAnswersWithItsCounts : Obligations.ApplyAnswersWithItsCounts := by
  intro scope s
  have answered := fun taken : s.accepts =>
    exec_of_command (i := .applyPlans scope) taken (show exec _ s = execApplyPlans scope s from rfl)
  refine ⟨fun taken large => ?_, fun taken known flying => ?_, fun sc taken known idle => ⟨fun none => ?_, fun some => ?_⟩,
    fun a awake flying completed => ?_⟩
  · rw [answered taken, scopeOf_of_large scope large]
    rfl
  · obtain ⟨sc, known⟩ := Option.isSome_iff_exists.mp known
    rw [answered taken, known]
    dsimp only
    rw [if_pos (Option.isSome_iff_ne_none.mpr flying)]
    rfl
  · rw [answered taken, known]
    dsimp only
    rw [if_neg (by simp [idle]), settledCommand, State.startApply]
    generalize s.applyAll sc = r at none ⊢
    dsimp only
    rw [if_pos none]
    rfl
  · rw [answered taken, known]
    dsimp only
    rw [if_neg (by simp [idle]), settledCommand, State.startApply]
    generalize s.applyAll sc = r at some ⊢
    dsimp only
    rw [if_neg some]
    rfl
  · refine (live_of_awake State.applyDone s awake).trans ?_
    rw [applyDone_of_completed flying completed]

/-! ### One record taken (R103) -/

/-- A fold over distinct elements of which one alone does something. -/
theorem foldl_single {α β : Type} {f : β → α → β} {x : α} (idle : ∀ b y, y ≠ x → f b y = b) :
    ∀ (l : List α) (b : β), l.Nodup → x ∈ l → l.foldl f b = f b x
  | y :: l, b, nodup, mem => by
    obtain ⟨fresh, nodup⟩ := List.nodup_cons.mp nodup
    rcases List.mem_cons.mp mem with rfl | mem
    · have rest : ∀ (l : List α) (c : β), x ∉ l → l.foldl f c = c := fun l => by
        induction l with
        | nil => exact fun _ _ => rfl
        | cons z l ih =>
          intro c outside
          obtain ⟨first, later⟩ := not_or.mp (mt List.mem_cons.mpr outside)
          rw [List.foldl_cons, idle c z (Ne.symm first), ih c later]
      exact rest l (f b x) fresh
    · have other : y ≠ x := fun same => fresh (same ▸ mem)
      rw [List.foldl_cons, idle b y other]
      exact foldl_single idle l b nodup mem

theorem applySlot_of_other {n m : Slot} (acc : State × List Slot × Nat) (other : m ≠ n) : applySlot (.slot n) acc m = acc := by
  have uncovered : ∀ sv : Service, (Scope.slot n).covers m sv = false := fun _ => decide_eq_false (Ne.symm other)
  unfold applySlot
  dsimp only
  split
  · rfl
  · split
    · rfl
    · split
      · rfl
      · rw [uncovered, Bool.false_and]
        rfl

/-- R103: an APPLY of one slot takes that slot alone. -/
theorem applyAll_slot (n : Slot) (s : State) : s.applyAll (.slot n) = applySlot (.slot n) (s, [], 0) n :=
  foldl_single (fun acc _ other => applySlot_of_other acc other) slots (s, [], 0) (List.nodup_finRange 64) (List.mem_finRange n)

section

variable {n : Slot} {st : Station} {sv : Service} {p : Staged} {s : State}

theorem target_of_connected {st : Station} {sv : Service} (enrolled : st.life = .enrolled) (service : st.service = some sv)
    (connected : sv.condition = .connected) : st.target sv = ⟨true, sv.limit, sv.cls⟩ := by
  have closed : st.targetClosed = true := by rw [Station.targetClosed, service]; simp [connected, enrolled]
  rw [Station.target, closed]

/-- R103, R104: the slot of a Connected record whose taken plan leaves it Connected. -/
theorem applySlot_of_connected {r : Service × Bool} (here : s.station n = some st) (enrolled : st.life = .enrolled)
    (service : st.service = some sv) (connected : sv.condition = .connected) (staged : sv.staged = some p)
    (plan : s.applyPlan st sv p = r) (stays : r.1.condition = .connected) :
    applySlot (.slot n) (s, [], 0) n = (s.setService n st r.1,
      if r.1.limit = sv.limit ∧ r.1.cls = sv.cls then [] else [n], if r.2 then 1 else 0) := by
  have covered : ((Scope.slot n).covers n sv && Decidable.decide (st.life ≠ .retiring)) = true := by
    rw [enrolled]
    simp [Scope.covers]
  have closed : madeOff sv r.1 = false := by rw [madeOff, stays]; exact Bool.and_false _
  have after : ({ st with service := some r.1 } : Station).target r.1 = ⟨true, r.1.limit, r.1.cls⟩ :=
    target_of_connected enrolled rfl stays
  rw [applySlot]
  dsimp only
  rw [here]
  dsimp only
  rw [service]
  dsimp only
  rw [staged]
  dsimp only
  rw [if_pos covered, plan, closed, after, target_of_connected enrolled service connected]
  simp only [Bool.false_eq_true, if_false, Settings.mk.injEq, true_and, List.nil_append, Nat.zero_add]

/-- R103: a lowering, or a raise the account admits, is copied to the target. -/
theorem applyPlan_of_taken (large : 10 ≤ p.limit) (closed : st.targetClosed = true)
    (taken : p.limit ≤ sv.limit ∨ sv.limit < p.limit ∧ s.admission (p.limit - sv.limit) = .granted) :
    s.applyPlan st sv p = ({ sv with limit := p.limit, cls := p.cls, staged := none }, false) := by
  have least : ¬ p.limit < Config.leastLimit := Nat.not_lt.mpr large
  rw [State.applyPlan, closed]
  rcases taken with lower | ⟨higher, granted⟩
  · simp only [Bool.not_true, Bool.false_eq_true, if_false, if_pos lower, if_neg least]
  · simp only [Bool.not_true, Bool.false_eq_true, if_false, if_neg (Nat.not_le.mpr higher), if_pos granted]

theorem applyPlan_of_refused (closed : st.targetClosed = true) (higher : sv.limit < p.limit)
    (refused : s.admission (p.limit - sv.limit) ≠ .granted) :
    s.applyPlan st sv p = ({ sv with cls := p.cls, staged := some { p with deferred := true } }, true) := by
  rw [State.applyPlan, closed]
  simp only [Bool.not_true, Bool.false_eq_true, if_false, if_neg (Nat.not_le.mpr higher), if_neg refused]

end

/-- Settles O27. -/
theorem applyTakesTheStagedPlan : Obligations.ApplyTakesTheStagedPlan := by
  intro n st sv p s here enrolled service connected staged large
  have closed : st.targetClosed = true := by rw [Station.targetClosed, service]; simp [connected, enrolled]
  have copied := fun taken => applySlot_of_connected here enrolled service connected staged
    (applyPlan_of_taken (s := s) large closed taken) connected
  refine ⟨fun lower => ?_, fun higher granted => ?_, fun higher refused => ?_⟩
  · rw [applyAll_slot, copied (.inl lower)]
    rfl
  · rw [applyAll_slot, copied (.inr ⟨higher, granted⟩)]
    rfl
  · rw [applyAll_slot, applySlot_of_connected here enrolled service connected staged
      (applyPlan_of_refused closed higher refused) connected]
    simp only [true_and]
    rfl

end Sys2Proof.Machine

/-! ## Proofs: the restore tick (06_the_supply_account.md section 6.7) -/

namespace Sys2Proof.Machine

/-! ### Searches in the table (R111 to R114) -/

/-- The lowest slot with a property. -/
theorem slots_find_iff (p : Slot → Bool) (n : Slot) : slots.find? p = some n ↔ p n = true ∧ ∀ m, m < n → p m = false := by
  unfold slots
  rw [List.find?_eq_some_iff_getElem]
  constructor
  · rintro ⟨holds, i, long, here, lower⟩
    rw [List.getElem_finRange] at here
    refine ⟨holds, fun m below => ?_⟩
    have least := lower m (by rw [← here] at below; exact below)
    rw [List.getElem_finRange] at least
    simpa using least
  · rintro ⟨holds, lower⟩
    refine ⟨holds, n, by rw [List.length_finRange]; exact n.isLt, by rw [List.getElem_finRange]; rfl, fun j below => ?_⟩
    rw [List.getElem_finRange]
    simpa using lower _ below

/-- The sum over the records of the table. -/
theorem table_sum (f : Record → Nat) (s : State) : (s.table.toList.map f).sum = ∑ n : Slot, f (s.record n) := by
  have listed : s.table.toList = (List.finRange 64).map s.record := by
    refine List.ext_getElem (by simp) fun i _ _ => ?_
    rw [Vector.getElem_toList, List.getElem_map, List.getElem_finRange]
    rfl
  rw [listed, List.map_map, Fin.sum_univ_def]
  rfl

section

variable {s : State} {n : Slot} {st : Station} {sv : Service}

/-- A slot's place among the Enrolled Service records of a class. -/
def State.inClass (s : State) (c : Nat) (m : Slot) : Option (Slot × Service) :=
  match s.enrolledService m with
  | some (_, sv) => if sv.cls = c then some (m, sv) else none
  | none => none

theorem restoreOrder_eq (s : State) : s.restoreOrder = [0, 1, 2, 3].flatMap fun c => slots.filterMap (s.inClass c) := rfl

theorem inClass_of (here : s.enrolledService n = some (st, sv)) : s.inClass sv.cls n = some (n, sv) := by
  rw [State.inClass, here]
  exact if_pos rfl

theorem inClass_eq_some {c : Nat} {m : Slot} {x : Slot × Service} (placed : s.inClass c m = some x) :
    ∃ su sw, s.enrolledService m = some (su, sw) ∧ sw.cls = c ∧ x = (m, sw) := by
  unfold State.inClass at placed
  split at placed
  · next su sw line =>
    split at placed
    · next cls =>
      cases placed
      exact ⟨su, sw, line, cls, rfl⟩
    · cases placed
  · cases placed

/-- R113, R114: the first record in restore order that is wanted. -/
theorem restoreOrder_find (wanted : Service → Bool) (here : s.enrolledService n = some (st, sv)) (low : sv.cls ≤ 3)
    (wants : wanted sv = true)
    (first : ∀ m su sw, s.enrolledService m = some (su, sw) → (sw.cls < sv.cls ∨ sw.cls = sv.cls ∧ m < n) → wanted sw = false) :
    s.restoreOrder.find? (fun x => wanted x.2) = some (n, sv) := by
  have classes : ∀ c ≤ 3, [0, 1, 2, 3] = List.range c ++ c :: [0, 1, 2, 3].drop (c + 1) := by decide
  rw [restoreOrder_eq, List.find?_flatMap, List.findSome?_eq_some_iff]
  refine ⟨List.range sv.cls, sv.cls, _, classes sv.cls low, ?_, fun c below => List.find?_eq_none.mpr fun x mem => ?_⟩
  · have found : slots.find? (fun m => (s.inClass sv.cls m).any fun x => wanted x.2) = some n := by
      refine (slots_find_iff _ n).mpr ⟨by rw [inClass_of here]; exact wants, fun m lower => ?_⟩
      cases placed : s.inClass sv.cls m with
      | none => rfl
      | some x =>
        obtain ⟨su, sw, line, cls, rfl⟩ := inClass_eq_some placed
        exact first m su sw line (.inr ⟨cls, lower⟩)
    rw [List.find?_filterMap, found]
    exact inClass_of here
  · obtain ⟨m, -, placed⟩ := List.mem_filterMap.mp mem
    obtain ⟨su, sw, line, cls, rfl⟩ := inClass_eq_some placed
    rw [first m su sw line (.inl (cls ▸ List.mem_range.mp below))]
    exact Bool.false_ne_true

theorem restoreOrder_find_none (wanted : Service → Bool)
    (none : ∀ m su sw, s.enrolledService m = some (su, sw) → wanted sw = false) :
    s.restoreOrder.find? (fun x => wanted x.2) = .none := by
  refine List.find?_eq_none.mpr fun x mem => ?_
  obtain ⟨c, -, mem⟩ := List.mem_flatMap.mp mem
  obtain ⟨m, -, placed⟩ := List.mem_filterMap.mp mem
  obtain ⟨su, sw, line, -, rfl⟩ := inClass_eq_some placed
  rw [none m su sw line]
  exact Bool.false_ne_true

end

/-! ### The account after a restore (R98, R99) -/

section

variable {s : State} {n : Slot} {st : Station} {sv : Service}

/-- A record that is written anew with a share risen by no more than `x` raises M by no more. -/
theorem committed_setStation_le {su : Station} (x : Nat) (here : s.station n = some st) (rise : su.share ≤ st.share + x) :
    (s.setStation n su).committed ≤ s.committed + x := by
  have each : ∀ m : Slot, ((s.setStation n su).record m).share ≤ (s.record m).share + if m = n then x else 0 := by
    intro m
    by_cases same : m = n
    · subst same
      rw [State.setStation, record_setRecord_self, if_pos rfl]
      have share : (s.record m).share = st.share := by rw [Record.share, show (s.record m).station = some st from here]
      rw [share]
      exact rise
    · rw [State.setStation, record_setRecord_ne n m _ s (Ne.symm same), if_neg same]
      exact le_refl _
  have total : ∑ m : Slot, ((s.setStation n su).record m).share ≤ (∑ m : Slot, (s.record m).share) + x := by
    refine (Finset.sum_le_sum fun m _ => each m).trans (Nat.le_of_eq ?_)
    rw [Finset.sum_add_distrib, Finset.sum_ite_eq' Finset.univ n, if_pos (Finset.mem_univ n)]
  rw [State.committed, State.committed, table_sum, table_sum]
  have saw : (s.setStation n su).saw = s.saw := rfl
  rw [saw]
  omega

/-- A condition given to a record raises its share by no more than its limit, and only as it becomes Connected. -/
theorem share_condition_le (service : st.service = some sv) (c : Condition) :
    ({ st with service := some { sv with condition := c } } : Station).share ≤
      st.share + if c = .connected then sv.limit else 0 := by
  have line : ({ st with service := some { sv with condition := c } } : Station).onLine = st.onLine := rfl
  have acknowledged : ({ st with service := some { sv with condition := c } } : Station).ackShare = st.ackShare := by
    unfold Station.ackShare
    rw [service]
  have intended : ({ st with service := some { sv with condition := c } } : Station).intendedShare ≤
      if c = .connected then sv.limit else 0 := by
    simp only [Station.intendedShare, Station.targetClosed, Bool.and_eq_true, decide_eq_true_eq]
    split_ifs with closed connected connected
    · exact le_refl _
    · exact absurd closed.1 connected
    · exact Nat.zero_le _
    · exact le_refl _
  unfold Station.share
  rw [line, acknowledged]
  split
  · omega
  · exact Nat.zero_le _

theorem overcommitted_eq_false_iff (s : State) :
    s.overcommitted = false ↔ ∀ k, s.water.capacity = some k → s.committed + s.account.reserve ≤ k := by
  unfold State.overcommitted State.room
  cases s.water.capacity with
  | none => exact ⟨fun _ _ => nofun, fun _ => rfl⟩
  | some k =>
    simp only [Option.some.injEq, forall_eq']
    refine decide_eq_false_iff_not.trans ?_
    show ¬ (k : Int) - s.account.reserve < s.committed ↔ _
    omega

theorem granted_iff (x : Nat) (s : State) : s.admission x = .granted ↔
    ∃ k, s.water.capacity = some k ∧ s.committed + x + s.account.reserve ≤ k := (admissionComparesWithTheCapacity x s).1

/-- Where M is within K - R and the rise of a restore is admitted, M stays so. -/
theorem overcommitted_of_restore (fits : s.overcommitted = false) (here : s.station n = some st)
    (service : st.service = some sv) (c : Condition) (admitted : c = .connected → s.admission sv.limit = .granted) :
    (s.setService n st { sv with condition := c }).overcommitted = false := by
  have risen := committed_setStation_le _ here (share_condition_le service c)
  refine (overcommitted_eq_false_iff _).mpr fun k capacity => ?_
  have within := (overcommitted_eq_false_iff s).mp fits k capacity
  show (s.setStation n { st with service := some { sv with condition := c } }).committed + s.account.reserve ≤ k
  by_cases connected : c = .connected
  · obtain ⟨l, same, room⟩ := (granted_iff sv.limit s).mp (admitted connected)
    cases capacity.symm.trans same
    rw [if_pos connected] at risen
    omega
  · rw [if_neg connected] at risen
    omega

end

/-! ### The branches of the tick (R111 to R115) -/

/-- R111: the tick's timer is started again. -/
def State.restarted (s : State) : State := { s with account := { s.account with tick := some 5000000 } }

/-- A record that a restore has given a condition, with its changed flag set. -/
def State.restored (n : Slot) (st : Station) (sv : Service) (c : Condition) (s : State) : State :=
  { s with
    table := s.table.set n ⟨true, some { st with service := some { sv with condition := c } }⟩
    attn := if (s.record n).changed then s.attn else s.attn ||| 0x1000 }

/-- R72: what a restored record becomes. -/
def Service.connected (sv : Service) : Condition := if sv.limit < 10 then .off else .connected

section

variable {s : State} {n : Slot} {st : Station} {sv : Service}

theorem setService_markChanged (n : Slot) (st : Station) (sv : Service) (c : Condition) (s : State) :
    (s.setService n st { sv with condition := c }).markChanged n = s.restored n st sv c :=
  setStation_markChanged n _ s

theorem restored_overcommitted (fits : s.overcommitted = false) (here : s.station n = some st) (service : st.service = some sv)
    (c : Condition) (admitted : c = .connected → s.admission sv.limit = .granted) :
    (s.restored n st sv c).overcommitted = false := by
  have shares : ∀ m, ((s.restored n st sv c).record m).share = ((s.setService n st { sv with condition := c }).record m).share := by
    intro m
    rw [← setService_markChanged]
    exact congrArg (fun o : Option Station => match o with | some st => st.share | none => 0) (markChanged_station n m _)
  exact (overcommitted_of_shares shares rfl rfl rfl).trans (overcommitted_of_restore fits here service c admitted)

theorem rederive_of_balanced (balanced : s.account.isOver = false) (fits : s.overcommitted = false) : s.rederive = s := by
  rw [State.rederive, fits, balanced]
  rfl

/-- R111: in Balanced the tick is its one action, and then the saw. -/
theorem restoreTick_of_balanced (balanced : s.account.isOver = false) (fits : s.overcommitted = false) :
    s.restoreTick = s.restarted.restoreAction.rederive.recheckSaw := by
  have again : s.restarted.rederive = s.restarted := rederive_of_balanced balanced fits
  have restoreTick : s.restoreTick =
      (if s.restarted.overcommitted then s.restarted.curtail else s.restarted).rederive.restoreAction.rederive.recheckSaw := rfl
  rw [restoreTick, if_neg (Bool.eq_false_iff.mp fits : ¬ s.restarted.overcommitted = true), again]

theorem recheckSaw_of_other (other : s.saw.state ≠ .waiting) : s.recheckSaw = s := by
  unfold State.recheckSaw
  split
  · next waiting _ => exact absurd waiting other
  · rfl

theorem recheckSaw_of_waiting {d : Nat} (waiting : s.saw.state = .waiting) (draw : s.saw.draw = some d) :
    s.recheckSaw = if s.admission d = .granted then { s with saw := s.saw.grant d } else s := by
  rw [State.recheckSaw, waiting, draw]

/-- R93: a restore that connects. -/
theorem connect_eq (sv : Service) : sv.connect = { sv with condition := sv.connected } := rfl

theorem reclose_of_due (here : s.enrolledService n = some (st, sv)) (due : sv.condition = .tripped none) :
    s.reclose n = s.restored n st sv sv.connected := by
  rw [State.reclose, here]
  dsimp only
  rw [due]
  dsimp only
  rw [connect_eq, setService_markChanged]

theorem capacityRestore_of_shed (here : s.enrolledService n = some (st, sv)) (shed : sv.condition = .shed none true) :
    s.capacityRestore n = s.restored n st sv sv.connected := by
  rw [State.capacityRestore, here]
  dsimp only
  rw [shed]
  dsimp only
  rw [connect_eq, setService_markChanged]

theorem frequencyRestore_of_both {d : Nat} (admitted : Bool) (here : s.enrolledService n = some (st, sv))
    (shed : sv.condition = .shed (some d) true) :
    s.frequencyRestore admitted n = s.restored n st sv (.shed none true) := by
  rw [State.frequencyRestore, here]
  dsimp only
  rw [shed]
  dsimp only
  rw [setService_markChanged]

theorem frequencyRestore_of_alone {d : Nat} (admitted : Bool) (here : s.enrolledService n = some (st, sv))
    (shed : sv.condition = .shed (some d) false) :
    s.frequencyRestore admitted n = s.restored n st sv (if admitted then sv.connected else .shed none true) := by
  rw [State.frequencyRestore, here]
  dsimp only
  rw [shed]
  cases admitted
  · simp only [Bool.false_eq_true, if_false, setService_markChanged]
  · simp only [if_true, connect_eq, setService_markChanged]

/-- R112: the reclose branch takes the lowest record that is due. -/
theorem recloseBranch_of_due (here : s.enrolledService n = some (st, sv)) (due : sv.condition = .tripped none)
    (lowest : ∀ m su sw, m < n → s.enrolledService m = some (su, sw) → sw.condition ≠ .tripped none)
    (allowed : sv.limit < 10 ∨ s.admission sv.limit = .granted) :
    s.recloseBranch = some (s.restored n st sv sv.connected) := by
  have candidate : s.recloseCandidate = some n := by
    refine (slots_find_iff _ n).mpr ⟨by rw [here]; exact decide_eq_true due, fun m lower => ?_⟩
    cases line : s.enrolledService m with
    | none => rfl
    | some x => exact decide_eq_false (lowest m x.1 x.2 lower line)
  rw [State.recloseBranch, candidate]
  dsimp only
  rw [here]
  dsimp only
  rw [reclose_of_due here due, show Config.leastLimit = 10 from rfl]
  split_ifs with small granted
  · rfl
  · rfl
  · exact absurd allowed (not_or.mpr ⟨small, granted⟩)

theorem recloseBranch_none (idle : ∀ m su sw, s.enrolledService m = some (su, sw) → sw.condition = .tripped none →
    (∀ k tu tw, k < m → s.enrolledService k = some (tu, tw) → tw.condition ≠ .tripped none) →
      ¬ (sw.limit < 10 ∨ s.admission sw.limit = .granted)) : s.recloseBranch = none := by
  unfold State.recloseBranch
  split
  · rfl
  · next m candidate =>
    obtain ⟨due, lowest⟩ := (slots_find_iff _ m).mp candidate
    split
    · rfl
    · next su sw line =>
      rw [line] at due
      obtain ⟨large, refused⟩ := not_or.mp (idle m su sw line (of_decide_eq_true due) fun k tu tw lower other same => by
        have earlier := lowest k lower
        rw [other] at earlier
        exact of_decide_eq_false earlier same)
      rw [if_neg (show ¬ sw.limit < Config.leastLimit from large), if_neg refused]

theorem frequencyBranch_none (idle : s.prot.settled ≠ .holds ∨
    ∀ m su sw, s.enrolledService m = some (su, sw) → frequencyReady s.gov.bs sw = false) : s.frequencyBranch = none := by
  unfold State.frequencyBranch
  split
  · next settled =>
    rw [restoreOrder_find_none _ (idle.resolve_left fun other => other (of_decide_eq_true settled))]
  · rfl

theorem frequencyBranch_of_first (settled : s.prot.settled = .holds)
    (found : s.restoreOrder.find? (fun x => frequencyReady s.gov.bs x.2) = some (n, sv)) :
    s.frequencyBranch =
      some (s.frequencyRestore (decide (sv.limit < 10) || decide (s.admission sv.limit = .granted)) n) := by
  have isSettled : s.isSettled = true := decide_eq_true settled
  rw [State.frequencyBranch, if_pos isSettled, found]
  rfl

theorem capacityBranch_of_first (fits : s.overcommitted = false) (here : s.enrolledService n = some (st, sv))
    (shed : sv.condition = .shed none true) (found : s.restoreOrder.find? (fun x => capacityShed x.2) = some (n, sv)) :
    s.capacityBranch =
      if sv.limit < 10 ∨ s.admission sv.limit = .granted then some (s.restored n st sv sv.connected) else none := by
  rw [State.capacityBranch, if_neg (Bool.eq_false_iff.mp fits), found]
  dsimp only
  rw [capacityRestore_of_shed here shed, show Config.leastLimit = 10 from rfl]
  by_cases small : sv.limit < 10
  · rw [if_pos small, if_pos (.inl small)]
  · rw [if_neg small]
    simp only [small, false_or]

theorem capacityBranch_none (idle : ∀ m su sw, s.enrolledService m = some (su, sw) → sw.condition ≠ .shed none true) :
    s.capacityBranch = none := by
  unfold State.capacityBranch
  split
  · rfl
  · rw [restoreOrder_find_none capacityShed fun m su sw line => decide_eq_false (idle m su sw line)]

end

theorem restoreAction_of_reclose {s u : State} (taken : s.recloseBranch = some u) : s.restoreAction = u := by
  rw [State.restoreAction, taken]

theorem restoreAction_of_frequency {s u : State} (reclose : s.recloseBranch = none) (taken : s.frequencyBranch = some u) :
    s.restoreAction = u := by
  rw [State.restoreAction, reclose, taken]

theorem restoreAction_of_capacity {s : State} (reclose : s.recloseBranch = none) (frequency : s.frequencyBranch = none) :
    s.restoreAction = s.capacityBranch.getD s := by
  rw [State.restoreAction, reclose, frequency]
  cases s.capacityBranch <;> rfl

/-- Where the action of a tick is a restore that the account admits, the tick is that restore. -/
theorem tick_of_restored {s : State} {n : Slot} {st : Station} {sv : Service} {c : Condition}
    (balanced : s.account.isOver = false) (fits : s.overcommitted = false) (other : s.saw.state ≠ .waiting)
    (here : s.enrolledService n = some (st, sv)) (admitted : c = .connected → s.admission sv.limit = .granted)
    (action : s.restarted.restoreAction = s.restarted.restored n st sv c) :
    s.restarted.restoreAction.rederive.recheckSaw = s.restarted.restored n st sv c := by
  obtain ⟨station, service, -⟩ := (enrolledService_iff s n st sv).mp here
  have within : (s.restarted.restored n st sv c).overcommitted = false :=
    restored_overcommitted (s := s.restarted) fits station service c admitted
  have again : (s.restarted.restored n st sv c).rederive = s.restarted.restored n st sv c :=
    rederive_of_balanced balanced within
  rw [action, again]
  exact recheckSaw_of_other (s := s.restarted.restored n st sv c) other

theorem granted_of_connected {s : State} {sv : Service} (allowed : sv.limit < 10 ∨ s.admission sv.limit = .granted)
    (connected : sv.connected = .connected) : s.admission sv.limit = .granted := by
  refine allowed.resolve_left fun small => ?_
  rw [Service.connected, if_pos small] at connected
  cases connected

/-- Settles O28. -/
theorem restoreTickTakesOneAction : Obligations.RestoreTickTakesOneAction := by
  intro s awake fresh balanced fits
  have row : exec .restoreTick s = .next (State.settle s s.restoreTick) :=
    expiry_of_fresh .restoreTick (settled State.restoreTick) s awake fresh
  have idle : s.restarted.rederive = s.restarted := rederive_of_balanced balanced fits
  rw [row, restoreTick_of_balanced balanced fits]
  refine ⟨fun other n st sv here => ⟨fun due lowest allowed => ?reclose, fun noReclose settled first => ?frequency,
    fun noReclose noneReady first => ?capacity⟩, fun d noReclose noneReady noneShed waiting draw => ?saw⟩
  case reclose =>
    rw [tick_of_restored balanced fits other here (granted_of_connected allowed)
      (restoreAction_of_reclose (recloseBranch_of_due (s := s.restarted) here due lowest allowed))]
    rfl
  case frequency =>
    obtain ⟨low, wants, earlier⟩ := first
    have action := restoreAction_of_frequency (s := s.restarted) (recloseBranch_none noReclose)
      (frequencyBranch_of_first settled (restoreOrder_find (s := s.restarted) _ here low wants earlier))
    refine ⟨fun d shed => ?_, fun d shed allowed => ?_, fun d shed refused => ?_⟩
    · rw [tick_of_restored (c := .shed none true) balanced fits other here nofun
        (action.trans (frequencyRestore_of_both (s := s.restarted) _ here shed))]
      rfl
    · have both : (decide (sv.limit < 10) || decide (s.restarted.admission sv.limit = .granted)) = true := by
        rw [Bool.or_eq_true, decide_eq_true_eq, decide_eq_true_eq]
        exact allowed
      rw [both] at action
      rw [tick_of_restored balanced fits other here (granted_of_connected allowed)
        (action.trans (frequencyRestore_of_alone (s := s.restarted) true here shed))]
      rfl
    · have neither : (decide (sv.limit < 10) || decide (s.restarted.admission sv.limit = .granted)) = false := by
        rw [Bool.or_eq_false_iff, decide_eq_false_iff_not, decide_eq_false_iff_not]
        exact not_or.mp refused
      rw [neither] at action
      rw [tick_of_restored (c := .shed none true) balanced fits other here nofun
        (action.trans (frequencyRestore_of_alone (s := s.restarted) false here shed))]
      rfl
  case capacity =>
    obtain ⟨low, wants, earlier⟩ := first
    have shed : sv.condition = .shed none true := of_decide_eq_true wants
    have action := restoreAction_of_capacity (s := s.restarted) (recloseBranch_none noReclose) (frequencyBranch_none noneReady)
    rw [capacityBranch_of_first (s := s.restarted) fits here shed
      (restoreOrder_find (s := s.restarted) capacityShed here low wants earlier)] at action
    refine ⟨fun allowed => ?_, fun refused => ?_⟩
    · have taken := action.trans (congrArg (Option.getD · s.restarted) (if_pos allowed))
      rw [tick_of_restored balanced fits other here (granted_of_connected allowed) taken]
      rfl
    · have none := action.trans (congrArg (Option.getD · s.restarted) (if_neg refused))
      rw [none, Option.getD_none, idle, recheckSaw_of_other (s := s.restarted) other]
      rfl
  case saw =>
    have action := restoreAction_of_capacity (s := s.restarted) (recloseBranch_none noReclose) (frequencyBranch_none noneReady)
    rw [capacityBranch_none (s := s.restarted) noneShed, Option.getD_none] at action
    rw [action, idle, recheckSaw_of_waiting (s := s.restarted) waiting draw]
    refine ⟨fun granted => ?_, fun refused => ?_⟩
    · rw [if_pos (show s.restarted.admission d = .granted from granted)]
      rfl
    · rw [if_neg (show ¬ s.restarted.admission d = .granted from refused)]
      rfl

end Sys2Proof.Machine

/-! ## Proofs: the curtailment pass (06_the_supply_account.md section 6.6) -/

namespace Sys2Proof.Machine

/-! ### One class of a pass (R92, R109) -/

/-- R109: a record after the pass over class c. -/
def Station.curtailedIn (c : Nat) (st : Station) : Station :=
  match st.service with
  | some sv =>
    if st.onLine && curtailed c sv then { st with service := some { sv with condition := (sv.shedBy false).getD sv.condition } }
    else st
  | none => st

section

variable {s t : State} {n m : Slot} {st : Station} {sv : Service} {c : Nat}

theorem curtailedIn_of_gauge (gauge : st.service = none) : st.curtailedIn c = st := by rw [Station.curtailedIn, gauge]

theorem curtailedIn_of_service (service : st.service = some sv) : st.curtailedIn c =
    if st.onLine && curtailed c sv then { st with service := some { sv with condition := (sv.shedBy false).getD sv.condition } }
    else st := by rw [Station.curtailedIn, service]

theorem curtailed_cls (taken : curtailed c sv = true) : sv.cls = c :=
  of_decide_eq_true ((Bool.and_eq_true _ _).mp taken).1

theorem curtailedIn_of_other (service : st.service = some sv) (other : sv.cls ≠ c) : st.curtailedIn c = st := by
  rw [curtailedIn_of_service service, if_neg]
  intro taken
  exact other (curtailed_cls ((Bool.and_eq_true _ _).mp taken).2)

/-- A pass moves the condition of a record alone. -/
theorem curtailedIn_service (c : Nat) (service : st.service = some sv) :
    ∃ k, st.curtailedIn c = { st with service := some { sv with condition := k } } := by
  rw [curtailedIn_of_service service]
  split
  · exact ⟨_, rfl⟩
  · refine ⟨sv.condition, ?_⟩
    cases st
    cases service
    rfl

theorem shedBy_of_curtailed (taken : curtailed c sv = true) (shed : 0 < c) : ∃ d, sv.shedBy false = some (.shed d true) := by
  obtain ⟨cls, named⟩ := (Bool.and_eq_true _ _).mp taken
  have other : sv.cls ≠ 0 := by
    rw [of_decide_eq_true cls]
    exact Nat.ne_of_gt shed
  rw [Service.shedBy, if_neg other]
  split at named
  · next connected => exact ⟨none, by rw [connected]; rfl⟩
  · next d shed => exact ⟨some d, by rw [shed]; rfl⟩
  all_goals cases named

theorem curtailed_of_connected (cls : sv.cls = c) (connected : sv.condition = .connected) : curtailed c sv = true := by
  rw [curtailed, connected, decide_eq_true cls]
  rfl

/-- R92, R109: nothing Connected is left of an Enrolled or Retiring record of the class. -/
theorem curtailedIn_condition (line : st.onLine = true) (service : st.service = some sv) (cls : sv.cls = c) (shed : 0 < c) :
    ∃ k, st.curtailedIn c = { st with service := some { sv with condition := k } } ∧ k ≠ .connected := by
  cases taken : curtailed c sv with
  | true =>
    obtain ⟨d, condition⟩ := shedBy_of_curtailed taken shed
    refine ⟨.shed d true, ?_, nofun⟩
    rw [curtailedIn_of_service service, line, taken, condition]
    rfl
  | false =>
    refine ⟨sv.condition, ?_, fun connected => Bool.false_ne_true (taken.symm.trans (curtailed_of_connected cls connected))⟩
    rw [curtailedIn_of_service service, taken, Bool.and_false]
    cases st
    cases service
    rfl

theorem setService_station (n m : Slot) (st : Station) (sv : Service) (s : State) :
    (s.setService n st sv).station m = if m = n then some { st with service := some sv } else s.station m := by
  by_cases same : m = n
  · rw [if_pos same, same]
    exact setStation_station_self n _ s
  · rw [if_neg same]
    exact setStation_station_ne (Ne.symm same) _ s

theorem curtailRecord_station (n m : Slot) (s : State) (shed : 0 < c) : (s.curtailRecord c n).station m =
    if m = n then (s.station n).map (Station.curtailedIn c) else s.station m := by
  have same : ∀ u : Station, s.station n = some u → u.curtailedIn c = u →
      s.station m = if m = n then (s.station n).map (Station.curtailedIn c) else s.station m := by
    intro u here idle
    split
    · next same => rw [same, here, Option.map_some, idle]
    · rfl
  cases here : s.station n with
  | none =>
    have vacant : s.onLineService n = none := by rw [State.onLineService, here]
    rw [State.curtailRecord, vacant, Option.map_none]
    dsimp only
    split
    · next same => rw [same, here]
    · rfl
  | some u =>
    rw [← here]
    cases line : s.onLineService n with
    | none =>
      refine (congrArg (fun t : State => t.station m) (by rw [State.curtailRecord, line])).trans (same u here ?_)
      cases service : u.service with
      | none => exact curtailedIn_of_gauge service
      | some sv =>
        rw [curtailedIn_of_service service, if_neg]
        intro taken
        rw [onLineService_of here service ((Bool.and_eq_true _ _).mp taken).1] at line
        cases line
    | some x =>
      obtain ⟨u', sv⟩ := x
      obtain ⟨there, service, onLine⟩ := (onLineService_iff s n u' sv).mp line
      cases here.symm.trans there
      rw [State.curtailRecord, line]
      dsimp only
      cases taken : curtailed c sv with
      | false =>
        rw [if_neg Bool.false_ne_true]
        exact same u here (by rw [curtailedIn_of_service service, taken, Bool.and_false]; rfl)
      | true =>
        obtain ⟨d, condition⟩ := shedBy_of_curtailed taken shed
        rw [if_pos rfl, State.shedRequest, line]
        dsimp only
        rw [condition]
        dsimp only
        rw [markChanged_station, setService_station, here, Option.map_some, curtailedIn_of_service service, onLine, taken,
          condition]
        rfl

theorem curtailRecords_station (m : Slot) (shed : 0 < c) : ∀ (l : List Slot) (s : State), l.Nodup →
    (l.foldl (State.curtailRecord c) s).station m =
      if m ∈ l then (s.station m).map (Station.curtailedIn c) else s.station m
  | [], _, _ => rfl
  | n :: l, s, nodup => by
    obtain ⟨fresh, nodup⟩ := List.nodup_cons.mp nodup
    rw [List.foldl_cons, curtailRecords_station m shed l _ nodup, curtailRecord_station n m s shed]
    by_cases same : m = n
    · rw [if_pos same, if_neg (same ▸ fresh), if_pos (same ▸ List.mem_cons_self), same]
    · rw [if_neg same]
      simp only [List.mem_cons, same, false_or]

theorem sawShedOrder_station (m : Slot) (s : State) : s.sawShedOrder.station m = s.station m := by
  unfold State.sawShedOrder
  split <;> rfl

/-- R109: the pass over class c takes every record of the table. -/
theorem curtailClass_station (m : Slot) (s : State) (shed : 0 < c) :
    (s.curtailClass c).station m = (s.station m).map (Station.curtailedIn c) := by
  have records := curtailRecords_station m shed slots s (List.nodup_finRange 64)
  rw [if_pos (show m ∈ slots from List.mem_finRange m)] at records
  rw [curtailClass_eq]
  generalize slots.foldl (State.curtailRecord c) s = t at records ⊢
  split
  · rw [sawShedOrder_station, records]
  · exact records

/-- R165: the saw after a shed order. -/
def Saw.shedOrdered (w : Saw) : Saw := if w.hasPermit then { w.withdraw with lastEvent := some .shed } else w

theorem sawShedOrder_saw (s : State) : s.sawShedOrder.saw = s.saw.shedOrdered := by
  unfold State.sawShedOrder Saw.shedOrdered
  split <;> rfl

theorem curtailClass_saw (c : Nat) (s : State) :
    (s.curtailClass c).saw = if s.saw.cls = c then s.saw.shedOrdered else s.saw := by
  have records : (slots.foldl (State.curtailRecord c) s).saw = s.saw :=
    block_of_blank State.saw State.exceptTable (by rintro ⟨⟩; rfl) (curtailRecords_exceptTable c slots s)
  rw [curtailClass_eq, records]
  generalize slots.foldl (State.curtailRecord c) s = t at records ⊢
  split
  · rw [sawShedOrder_saw, records]
  · exact records

/-! ### The classes of a pass (R109, R110) -/

/-- A record once the classes above c are shed. -/
def Station.passed (c : Nat) (st : Station) : Station :=
  match st.service with
  | some sv => if c < sv.cls ∧ sv.cls ≤ 3 then st.curtailedIn sv.cls else st
  | none => st

/-- The saw once the classes above c are shed. -/
def Saw.passed (c : Nat) (w : Saw) : Saw := if c < w.cls ∧ w.cls ≤ 3 then w.shedOrdered else w

/-- The pass has shed the classes above c. -/
structure Passed (c : Nat) (s t : State) : Prop where
  station : ∀ m, t.station m = (s.station m).map (Station.passed c)
  saw : t.saw = s.saw.passed c
  rest : t.exceptTable.exceptSaw = s.exceptTable.exceptSaw

theorem passed_of_service (service : st.service = some sv) :
    st.passed c = if c < sv.cls ∧ sv.cls ≤ 3 then st.curtailedIn sv.cls else st := by rw [Station.passed, service]

theorem passed_of_gauge (gauge : st.service = none) : st.passed c = st := by rw [Station.passed, gauge]

/-- The next class below is shed. -/
theorem curtailedIn_passed (shed : 0 < c) (most : c ≤ 3) (st : Station) : (st.passed c).curtailedIn c = st.passed (c - 1) := by
  cases service : st.service with
  | none => rw [passed_of_gauge service, passed_of_gauge service, curtailedIn_of_gauge service]
  | some sv =>
    rw [passed_of_service service, passed_of_service service]
    by_cases above : c < sv.cls ∧ sv.cls ≤ 3
    · obtain ⟨k, eq⟩ := curtailedIn_service sv.cls service
      rw [if_pos above, if_pos ⟨by omega, above.2⟩, eq]
      exact curtailedIn_of_other (sv := { sv with condition := k }) rfl (Nat.ne_of_gt above.1)
    · rw [if_neg above]
      by_cases here : sv.cls = c
      · rw [if_pos ⟨by omega, by omega⟩, here]
      · rw [if_neg (by omega), curtailedIn_of_other service here]

theorem toClosing_cls (w : Saw) : w.toClosing.cls = w.cls := by
  unfold Saw.toClosing
  split <;> rfl

theorem withdraw_cls (w : Saw) : w.withdraw.cls = w.cls := by
  unfold Saw.withdraw
  split
  · rfl
  · rfl
  · exact toClosing_cls w
  · exact toClosing_cls w
  all_goals rfl

theorem shedOrdered_cls (w : Saw) : w.shedOrdered.cls = w.cls := by
  unfold Saw.shedOrdered
  split
  · exact withdraw_cls w
  · rfl

theorem saw_passed_cls (w : Saw) : (w.passed c).cls = w.cls := by
  unfold Saw.passed
  split
  · exact shedOrdered_cls w
  · rfl

theorem Passed.step (passed : Passed c s t) (shed : 0 < c) (most : c ≤ 3) : Passed (c - 1) s (t.curtailClass c) where
  station m := by
    rw [curtailClass_station m t shed, passed.station, Option.map_map]
    exact congrArg (fun f => (s.station m).map f) (funext (curtailedIn_passed shed most))
  saw := by
    rw [curtailClass_saw, passed.saw, saw_passed_cls]
    unfold Saw.passed
    by_cases here : s.saw.cls = c
    · rw [if_pos here, if_neg (by omega), if_pos ⟨by omega, by omega⟩]
    · rw [if_neg here]
      by_cases above : c < s.saw.cls ∧ s.saw.cls ≤ 3
      · rw [if_pos above, if_pos ⟨by omega, above.2⟩]
      · rw [if_neg above, if_neg (by omega)]
  rest := (curtailClass_exceptSaw c t).trans passed.rest

theorem Passed.refl (s : State) : Passed 3 s s where
  station m := by
    have same : ∀ st : Station, st.passed 3 = st := fun st => by
      cases service : st.service with
      | none => exact passed_of_gauge service
      | some sv => rw [passed_of_service service, if_neg (by omega)]
    rw [show Station.passed 3 = id from funext same, Option.map_id]
    rfl
  saw := (if_neg (by omega)).symm
  rest := rfl

/-- How far a pass has come: it stops at the first class before which P is within K - R. -/
def PassStage (c : Nat) (s t : State) : Prop :=
  ∃ d, c ≤ d ∧ d ≤ 3 ∧ Passed d s t ∧ (d = c ∨ t.short = false) ∧ ∀ k, d < k → k ≤ 3 → ∃ w, Passed k s w ∧ w.short = true

/-- R109: a class is shed only while P exceeds K - R. -/
def State.passClass (c : Nat) (s : State) : State := if s.short then s.curtailClass c else s

theorem PassStage.step (staged : PassStage c s t) (shed : 0 < c) : PassStage (c - 1) s (t.passClass c) := by
  obtain ⟨d, least, most, passed, last, before⟩ := staged
  unfold State.passClass
  cases short : t.short with
  | false =>
    rw [if_neg Bool.false_ne_true]
    exact ⟨d, by omega, most, passed, .inr short, before⟩
  | true =>
    rw [if_pos rfl]
    have here : d = c := last.resolve_right fun fits => Bool.false_ne_true (fits.symm.trans short)
    subst here
    refine ⟨d - 1, le_refl _, by omega, passed.step shed most, .inl rfl, fun k above most' => ?_⟩
    rcases Nat.eq_or_lt_of_le (show d ≤ k by omega) with same | later
    · subst same
      exact ⟨t, passed, short⟩
    · exact before k later most'

theorem curtail_eq (s : State) : s.curtail =
    if (((s.passClass 3).passClass 2).passClass 1).short then (((s.passClass 3).passClass 2).passClass 1).markUnresolvable
    else ((s.passClass 3).passClass 2).passClass 1 := by
  have step : (fun (t : State) (c : Nat) => if t.short = true then t.curtailClass c else t) = fun t c => t.passClass c :=
    funext fun t => funext fun c => by rw [State.passClass]
  rw [State.curtail, step, List.foldl_cons, List.foldl_cons, List.foldl_cons, List.foldl_nil]

/-- R109: what a pass does, class by class. -/
theorem curtail_stage (s : State) : ∃ t, PassStage 0 s t ∧ s.curtail = if t.short then t.markUnresolvable else t := by
  have start : PassStage 3 s s :=
    ⟨3, le_refl 3, le_refl 3, .refl s, .inl rfl, fun k above most => absurd most (Nat.not_le.mpr above)⟩
  have third := start.step (by decide)
  have second := third.step (by decide)
  have first := second.step (by decide)
  exact ⟨_, first, curtail_eq s⟩

/-! ### What a pass leaves (O29) -/

theorem passed_service (c : Nat) (service : st.service = some sv) :
    ∃ k, st.passed c = { st with service := some { sv with condition := k } } := by
  rw [passed_of_service service]
  split
  · exact curtailedIn_service sv.cls service
  · refine ⟨sv.condition, ?_⟩
    cases st
    cases service
    rfl

/-- R73, R98: what the classes above c have given up of P. -/
theorem passed_intendedShare (c : Nat) (st : Station) : (st.passed c).intendedShare =
    match st.service with
    | some sv => if st.onLine = true ∧ c < sv.cls ∧ sv.cls ≤ 3 then 0 else st.intendedShare
    | none => 0 := by
  cases service : st.service with
  | none => rw [passed_of_gauge service, Station.intendedShare, service]
  | some sv =>
    dsimp only
    rw [passed_of_service service]
    by_cases above : c < sv.cls ∧ sv.cls ≤ 3
    · rw [if_pos above]
      cases line : st.onLine with
      | true =>
        obtain ⟨k, eq, off⟩ := curtailedIn_condition line service rfl (Nat.zero_lt_of_lt above.1)
        rw [if_pos ⟨rfl, above⟩, eq]
        simp [Station.intendedShare, Station.targetClosed, off]
      | false =>
        rw [if_neg (by simp), curtailedIn_of_service service, line]
        rfl
    · rw [if_neg above, if_neg fun h => above h.2]

/-- What a slot keeps of P once the classes above c have given theirs up. -/
def State.shareBelow (s : State) (c : Nat) (m : Slot) : Nat :=
  match s.onLineService m with
  | some (st, sv) => if c < sv.cls ∧ sv.cls ≤ 3 then 0 else st.intendedShare
  | none => 0

/-- P less what the classes above c give up. -/
def State.aboveClass (s : State) (c : Nat) : Nat :=
  (slots.map (s.shareBelow c)).sum + (if c < s.saw.cls ∧ s.saw.cls ≤ 3 then s.saw.withdraw else s.saw).reserved

theorem withdraw_of_noPermit {w : Saw} (none : w.hasPermit = false) : w.withdraw = w := by
  unfold Saw.hasPermit at none
  unfold Saw.withdraw
  cases state : w.state <;> rw [state] at none
  case waiting | preparing | released | cutting => cases none

theorem shedOrdered_reserved (w : Saw) : w.shedOrdered.reserved = w.withdraw.reserved := by
  unfold Saw.shedOrdered
  cases permit : w.hasPermit with
  | true => rfl
  | false => rw [withdraw_of_noPermit permit]; rfl

/-- R71, R73: a record that is not on line has no intended share. -/
theorem intendedShare_of_offLine (off : st.onLine = false) : st.intendedShare = 0 := by
  have life : st.life ≠ .enrolled := fun enrolled => by simp [Station.onLine, enrolled] at off
  unfold Station.intendedShare Station.targetClosed
  cases st.service <;> simp [life]

theorem onLineService_of_offLine (here : s.station m = some st) (off : st.onLine = false) : s.onLineService m = none := by
  cases found : s.onLineService m with
  | none => rfl
  | some x =>
    obtain ⟨there, -, on⟩ := (onLineService_iff s m x.1 x.2).mp found
    cases here.symm.trans there
    exact absurd on (Bool.eq_false_iff.mp off)

theorem Passed.intended (passed : Passed c s t) : t.intended = s.aboveClass c := by
  have saw : t.saw.reserved = (if c < s.saw.cls ∧ s.saw.cls ≤ 3 then s.saw.withdraw else s.saw).reserved := by
    rw [passed.saw, Saw.passed]
    split
    · exact shedOrdered_reserved s.saw
    · rfl
  have each : ∀ m, (t.record m).intendedShare = s.shareBelow c m := by
    intro m
    have record : (t.record m).intendedShare = match t.station m with | some st => st.intendedShare | none => 0 := rfl
    rw [record, passed.station m, State.shareBelow]
    cases here : s.station m with
    | none => rw [State.onLineService, here]; rfl
    | some st =>
      rw [Option.map_some]
      dsimp only
      rw [passed_intendedShare]
      cases service : st.service with
      | none => rw [State.onLineService, here]; simp only [service]
      | some sv =>
        cases line : st.onLine with
        | true => rw [onLineService_of here service line]; simp only [true_and]
        | false => rw [onLineService_of_offLine here line, intendedShare_of_offLine line]; simp only [ite_self]
  have sum : (t.table.toList.map Record.intendedShare).sum = (slots.map (s.shareBelow c)).sum := by
    rw [table_sum, Fin.sum_univ_def]
    exact congrArg List.sum (List.map_congr_left fun m _ => each m)
  rw [State.intended, sum, saw]
  rfl

theorem Passed.room (passed : Passed c s t) : t.room = s.room := by
  have water : t.water = s.water := block_of_blank State.water (fun u => u.exceptTable.exceptSaw) (by rintro ⟨⟩; rfl) passed.rest
  have account : t.account = s.account :=
    block_of_blank State.account (fun u => u.exceptTable.exceptSaw) (by rintro ⟨⟩; rfl) passed.rest
  rw [State.room, State.room, water, account]

theorem short_iff (s : State) : s.short = true ↔ ∃ r, s.room = some r ∧ r < (s.intended : Int) := by
  unfold State.short
  cases s.room with
  | none => exact ⟨nofun, fun ⟨_, absent, _⟩ => by cases absent⟩
  | some r => simp

/-- R110: while a class is reached, P less what the classes above gave exceeds K - R. -/
theorem Passed.exceeds (passed : Passed c s t) (short : t.short = true) : ∃ r, s.room = some r ∧ r < (s.aboveClass c : Int) := by
  obtain ⟨r, room, less⟩ := (short_iff t).mp short
  exact ⟨r, passed.room ▸ room, passed.intended ▸ less⟩

end

theorem markUnresolvable_station (m : Slot) (s : State) : s.markUnresolvable.station m = s.station m := by
  unfold State.markUnresolvable
  split <;> rfl

theorem markUnresolvable_saw (s : State) : s.markUnresolvable.saw = s.saw := by
  unfold State.markUnresolvable
  split <;> rfl

theorem markUnresolvable_short (s : State) : s.markUnresolvable.short = s.short := by
  unfold State.markUnresolvable
  split <;> rfl

theorem markUnresolvable_unresolvable (s : State) : s.markUnresolvable.account.unresolvable = true := by
  unfold State.markUnresolvable
  split
  · assumption
  · rfl

theorem shedOrdered_hasPermit (w : Saw) : w.shedOrdered.hasPermit = false := by
  unfold Saw.shedOrdered
  cases permit : w.hasPermit with
  | false => exact permit
  | true =>
    have closing : w.toClosing.hasPermit = false := by
      unfold Saw.toClosing
      split <;> rfl
    show w.withdraw.hasPermit = false
    unfold Saw.withdraw
    unfold Saw.hasPermit at permit
    cases state : w.state <;> rw [state] at permit
    · cases permit
    · rfl
    · rfl
    · exact closing
    · exact closing
    all_goals cases permit

/-- R92: what is Connected after a pass was not touched by it. -/
theorem passed_of_connected {d : Nat} {st : Station} {sv : Service} (service : (st.passed d).service = some sv)
    (connected : sv.condition = .connected) : st.passed d = st := by
  cases before : st.service with
  | none => exact passed_of_gauge before
  | some sw =>
    rw [passed_of_service before] at service ⊢
    split at service
    · next reaches =>
      rw [if_pos reaches]
      cases line : st.onLine with
      | false =>
        rw [curtailedIn_of_service before, line]
        rfl
      | true =>
        obtain ⟨k, shed, off⟩ := curtailedIn_condition line before rfl (Nat.zero_lt_of_lt reaches.1)
        rw [shed] at service
        cases service
        exact absurd connected off
    · next other => exact if_neg other

section

variable {s t : State} {d : Nat}

/-- A pass that has reached the classes above `d`: what it has made of records and saw, and what it found on its way. -/
structure PassEnded (s : State) (d : Nat) (t : State) : Prop where
  station : ∀ m, t.station m = (s.station m).map (Station.passed d)
  saw : t.saw = s.saw.passed d
  reached : ∀ k, d < k → k ≤ 3 → ∃ r, s.room = some r ∧ r < (s.aboveClass k : Int)

theorem passEnded_of_stage {u : State} (passed : Passed d s u)
    (before : ∀ k, d < k → k ≤ 3 → ∃ r, s.room = some r ∧ r < (s.aboveClass k : Int))
    (pass : s.curtail = if u.short then u.markUnresolvable else u) : PassEnded s d s.curtail ∧ s.curtail.short = u.short := by
  rw [pass]
  split
  · exact ⟨⟨fun m => (markUnresolvable_station m u).trans (passed.station m), (markUnresolvable_saw u).trans passed.saw, before⟩,
      markUnresolvable_short u⟩
  · exact ⟨⟨passed.station, passed.saw, before⟩, rfl⟩

/-- R108: a Connected record stands as it stood. -/
theorem PassEnded.connected (ended : PassEnded s d t) {n : Slot} {st : Station} {sv : Service} (here : t.station n = some st)
    (service : st.service = some sv) (connected : sv.condition = .connected) : s.station n = some st := by
  rw [ended.station] at here
  obtain ⟨su, held, rfl⟩ := Option.map_eq_some_iff.mp here
  rw [held, passed_of_connected service connected]

/-- R108, R109: after the last class nothing is left to shed. -/
theorem PassEnded.spent (ended : PassEnded s 0 t) :
    (∀ n st sv, t.onLineService n = some (st, sv) → sv.condition = .connected → sv.cls = 0 ∨ 3 < sv.cls) ∧
      (1 ≤ t.saw.cls → t.saw.cls ≤ 3 → t.saw.hasPermit = false) := by
  refine ⟨fun n st sv line connected => ?_, fun least top => ?_⟩
  · obtain ⟨there, service, on⟩ := (onLineService_iff _ n st sv).mp line
    rw [ended.station] at there
    obtain ⟨su, here, rfl⟩ := Option.map_eq_some_iff.mp there
    refine (Nat.eq_zero_or_pos sv.cls).imp_right fun least => Nat.not_le.mp fun top => ?_
    have same : su.passed 0 = su := passed_of_connected service connected
    rw [same] at service on
    obtain ⟨k, shed, off⟩ := curtailedIn_condition on service rfl least
    rw [passed_of_service service, if_pos ⟨least, top⟩, shed] at same
    have condition := congrArg Station.service same
    rw [service, Option.some.injEq] at condition
    exact off ((congrArg Service.condition condition).trans connected)
  · rw [ended.saw, saw_passed_cls] at least top
    rw [ended.saw, Saw.passed, if_pos ⟨least, top⟩]
    exact shedOrdered_hasPermit s.saw

/-- R109: a record is changed only when its class is reached. -/
theorem PassEnded.moved (ended : PassEnded s d t) {n : Slot} (moved : t.station n ≠ s.station n) :
    ∃ st sv r, s.onLineService n = some (st, sv) ∧ s.room = some r ∧ 1 ≤ sv.cls ∧ sv.cls ≤ 3 ∧
      r < (s.aboveClass sv.cls : Int) := by
  have changed : ∃ st, s.station n = some st ∧ st.passed d ≠ st := by
    cases here : s.station n with
    | none => exact absurd (by rw [ended.station, here]; rfl) moved
    | some st => exact ⟨st, rfl, fun same => moved (by rw [ended.station, here, Option.map_some, same])⟩
  obtain ⟨st, here, differs⟩ := changed
  cases service : st.service with
  | none => exact absurd (passed_of_gauge service) differs
  | some sv =>
    rw [passed_of_service service] at differs
    split at differs
    · next reaches =>
      obtain ⟨r, room, exceeds⟩ := ended.reached sv.cls reaches.1 reaches.2
      cases line : st.onLine with
      | true =>
        exact ⟨st, sv, r, onLineService_of here service line, room, Nat.zero_lt_of_lt reaches.1, reaches.2, exceeds⟩
      | false =>
        rw [curtailedIn_of_service service, line] at differs
        exact absurd rfl differs
    · exact absurd rfl differs

theorem PassEnded.saw_moved (ended : PassEnded s d t) (moved : t.saw ≠ s.saw) :
    ∃ r, s.room = some r ∧ 1 ≤ s.saw.cls ∧ s.saw.cls ≤ 3 ∧ r < (s.aboveClass s.saw.cls : Int) := by
  rw [ended.saw, Saw.passed] at moved
  split at moved
  · next reaches =>
    obtain ⟨r, room, exceeds⟩ := ended.reached s.saw.cls reaches.1 reaches.2
    exact ⟨r, room, Nat.zero_lt_of_lt reaches.1, reaches.2, exceeds⟩
  · exact absurd rfl moved

/-- R109: records of class 0 are not touched. -/
theorem PassEnded.first (ended : PassEnded s d t) {n : Slot} {st : Station} {sv : Service} (here : s.station n = some st)
    (service : st.service = some sv) (low : sv.cls = 0) : t.station n = some st := by
  rw [ended.station, here, Option.map_some, passed_of_service service, if_neg (by omega)]

end

/-- Settles O29. -/
theorem curtailmentShedsUntilItFits : Obligations.CurtailmentShedsUntilItFits := by
  intro s
  obtain ⟨u, ⟨d, -, most, passed, last, before⟩, pass⟩ := curtail_stage s
  obtain ⟨ended, short⟩ := passEnded_of_stage passed
    (fun k above most => by
      obtain ⟨w, at_k, exceeds⟩ := before k above most
      exact at_k.exceeds exceeds) pass
  have above : ∀ k, (slots.map (fun m =>
      match s.onLineService m with
      | some (st, sv) => if k < sv.cls ∧ sv.cls ≤ 3 then 0 else st.intendedShare
      | none => 0)).sum + (if k < s.saw.cls ∧ s.saw.cls ≤ 3 then s.saw.withdraw else s.saw).reserved = s.aboveClass k :=
    fun k => congrArg (fun f : Slot → Nat => (slots.map f).sum + _) (funext fun m => rfl)
  refine ⟨?_, fun n moved => ?_, fun moved => ?_, fun n st sv here service low => ended.first here service low,
    fun n st sv there service connected => ended.connected there service connected, fun clear => ?_⟩
  · rw [short]
    refine last.symm.imp_right ?_
    rintro rfl
    exact ended.spent
  · obtain ⟨st, sv, r, line, room, least, top, exceeds⟩ := ended.moved moved
    exact ⟨st, sv, r, line, room, least, top, lt_of_lt_of_eq exceeds (congrArg Nat.cast (above _).symm)⟩
  · obtain ⟨r, room, least, top, exceeds⟩ := ended.saw_moved moved
    exact ⟨r, room, least, top, lt_of_lt_of_eq exceeds (congrArg Nat.cast (above _).symm)⟩
  · have account : u.account = s.account :=
      block_of_blank State.account (fun t => t.exceptTable.exceptSaw) (by rintro ⟨⟩; rfl) passed.rest
    rw [short, pass]
    cases exceeds : u.short with
    | true => exact markUnresolvable_unresolvable u
    | false =>
      rw [if_neg Bool.false_ne_true, account]
      exact clear

end Sys2Proof.Machine

/-! ## Proofs: the replies of stations (05_the_station_table.md sections 5.7 to 5.9, 08 section 8.6) -/

namespace Sys2Proof.Machine

/-! ### One record written (R94) -/

/-- A record with its changed flag, and the attention set, are written. -/
def State.wrote (n : Slot) (c : Bool) (st : Station) (a : Half) (s : State) : State :=
  { s with table := s.table.set n ⟨c, some st⟩, attn := a }

section

variable {s : State} {n : Slot} {st su : Station} {sv : Service} {c : Bool} {a : Half}

theorem setStation_wrote (n : Slot) (st : Station) (s : State) : s.setStation n st = s.wrote n (s.record n).changed st s.attn := rfl

theorem wrote_record (n : Slot) (c : Bool) (st : Station) (a : Half) (s : State) : (s.wrote n c st a).record n = ⟨c, some st⟩ :=
  record_setRecord_self n ⟨c, some st⟩ s

theorem wrote_record_ne {k : Slot} (other : k ≠ n) (c : Bool) (st : Station) (a : Half) (s : State) :
    (s.wrote n c st a).record k = s.record k :=
  record_setRecord_ne n k ⟨c, some st⟩ s (Ne.symm other)

theorem wrote_station (n : Slot) (c : Bool) (st : Station) (a : Half) (s : State) : (s.wrote n c st a).station n = some st :=
  congrArg Record.station (wrote_record n c st a s)

theorem wrote_setStation (n : Slot) (c : Bool) (st su : Station) (a : Half) (s : State) :
    (s.wrote n c st a).setStation n su = s.wrote n c su a := by
  rw [State.setStation, wrote_record]
  simp [State.wrote, State.setRecord]

theorem wrote_markChanged (n : Slot) (c : Bool) (st : Station) (a : Half) (s : State) : (s.wrote n c st a).markChanged n =
    s.wrote n true st (if c then a else a ||| 0x1000) := by
  cases c with
  | true => rw [markChanged_of_set n _ (by rw [wrote_record])]; rfl
  | false =>
    rw [markChanged_of_clear n _ (by rw [wrote_record]), wrote_record]
    simp [State.wrote, State.setRecord, State.raise, Attn.bit]

/-! ### The report of a Service record (R86, R89) -/

/-- R89: the trip indication that is a new trip. -/
def Station.newTrip (st : Station) (sv : Service) (t : Option TripReason) : Option TripReason :=
  if st.life = .enrolled ∧ sv.condition.isTrip = false ∧ sv.ackClosed = true then t else none

/-- R89: what a new trip makes of a record. -/
def Service.trips (sv : Service) : Option TripReason → Service
  | some r => { sv with condition := tripCondition r sv.tripCount, tripCount := tripCountAfter r sv.tripCount, live := 0 }
  | none => sv

/-- R86, R89: what a report makes of a record. -/
def Service.reported (sv : Service) (new : Option TripReason) (ack : Settings) (demand : Nat) : Service :=
  { sv.trips new with ack := some ack, demand := some (min demand demandBound), pushDeferred := false }

/-- R86 step 1: a record that has been answered. -/
def Service.prompt (sv : Service) : Service := { sv with pushDeferred := false }

def Station.answered (st : Station) (sv : Service) : Station := { st with missed := 0, silence := none, service := some sv.prompt }

theorem linkAnswered_wrote (here : s.station n = some st) (service : st.service = some sv) : ∃ a, s.linkAnswered n =
    s.wrote n ((s.record n).changed || st.silence.isSome) (st.answered sv) a := by
  rw [State.linkAnswered, here]
  dsimp only
  rw [service, Option.map_some, setStation_wrote]
  split
  · next silent =>
    rw [wrote_markChanged, silent, Bool.or_true]
    exact ⟨_, rfl⟩
  · next answering =>
    rw [Bool.eq_false_iff.mpr answering, Bool.or_false]
    exact ⟨_, rfl⟩

theorem tripIndication_wrote (r : TripReason) (service : st.service = some sv) : ∃ a', (s.wrote n c st a).tripIndication n r =
    s.wrote n (c || (st.newTrip sv (some r)).isSome) { st with service := some (sv.trips (st.newTrip sv (some r))) } a' := by
  have same : { st with service := some sv } = st := by rw [← service]
  by_cases enrolled : st.life = .enrolled
  · have line := enrolledService_of (wrote_station n c st a s) service enrolled
    rw [State.tripIndication, line]
    dsimp only
    by_cases new : sv.condition.isTrip = false ∧ sv.ackClosed = true
    · rw [if_pos (by rw [new.1, new.2]; rfl), Station.newTrip, if_pos ⟨enrolled, new⟩, State.setService, wrote_setStation,
        wrote_markChanged, Option.isSome_some, Bool.or_true]
      exact ⟨_, rfl⟩
    · rw [if_neg, Station.newTrip, if_neg fun h => new h.2, Option.isSome_none, Bool.or_false, Service.trips, same]
      · exact ⟨_, rfl⟩
      · intro h
        rw [Bool.and_eq_true, Bool.not_eq_true'] at h
        exact new h
  · have off : (s.wrote n c st a).enrolledService n = none := by
      cases found : (s.wrote n c st a).enrolledService n with
      | none => rfl
      | some x =>
        obtain ⟨there, -, life⟩ := (enrolledService_iff _ n x.1 x.2).mp found
        cases (wrote_station n c st a s).symm.trans there
        exact absurd life enrolled
    rw [State.tripIndication, off, Station.newTrip, if_neg fun h => enrolled h.1, Option.isSome_none, Bool.or_false, Service.trips,
      same]
    exact ⟨_, rfl⟩

theorem acknowledge_wrote (ack : Settings) (demand : Nat) (service : st.service = some sv) (line : st.onLine = true) :
    (s.wrote n c st a).acknowledge n ack demand =
      s.wrote n c { st with service := some { sv with ack := some ack, demand := some (min demand demandBound) } } a := by
  rw [State.acknowledge, onLineService_of (wrote_station n c st a s) service line]
  exact wrote_setStation n c st _ a s

/-- R86, R89: a report from an Enrolled or Retiring Service record, up to the readiness test. -/
theorem serviceReport_wrote (ack : Settings) (demand : Nat) (trip : Option TripReason) (here : s.station n = some st)
    (service : st.service = some sv) (line : st.onLine = true) : ∃ a, s.serviceReport n ack demand trip =
      (s.wrote n ((s.record n).changed || st.silence.isSome || (st.newTrip sv trip).isSome)
        { st with missed := 0, silence := none, service := some (sv.reported (st.newTrip sv trip) ack demand) } a).readyTest n := by
  obtain ⟨a, answered⟩ := linkAnswered_wrote here service
  rw [State.serviceReport, onLineService_of here service line]
  dsimp only
  rw [answered]
  have onLine : (st.answered sv).onLine = true := line
  cases trip with
  | none =>
    dsimp only
    rw [acknowledge_wrote ack demand (sv := sv.prompt) rfl onLine, Station.newTrip, ite_self, Option.isSome_none, Bool.or_false]
    exact ⟨a, rfl⟩
  | some r =>
    obtain ⟨a', tripped⟩ := tripIndication_wrote (s := s) (n := n) (c := (s.record n).changed || st.silence.isSome) (a := a)
      (st := st.answered sv) (sv := sv.prompt) r rfl
    have new : (st.answered sv).newTrip sv.prompt (some r) = st.newTrip sv (some r) := rfl
    dsimp only
    rw [tripped, new, acknowledge_wrote (st := { st.answered sv with service := some (sv.prompt.trips (st.newTrip sv (some r))) })
      (sv := sv.prompt.trips (st.newTrip sv (some r))) ack demand rfl onLine]
    refine ⟨a', congrArg (fun w => (s.wrote n _ { st with missed := 0, silence := none, service := some w } a').readyTest n) ?_⟩
    cases st.newTrip sv (some r) <;> rfl

/-! ### The readiness test (R83) -/

/-- R83: a Retiring record is ready exactly where the station enforces an open breaker, no limit and the record's class. -/
theorem ready_iff (service : st.service = some sv) {ack : Settings} (acknowledged : sv.ack = some ack) :
    st.ready = true ↔
      st.life = .retiring ∧ ack.closed = false ∧ ack.limit = 0 ∧ sv.limit = 0 ∧ sv.cls = ack.cls := by
  by_cases retiring : st.life = .retiring
  · have line : st.onLine = true := (onLine_iff st).mpr (.inr retiring)
    have target : st.target sv = ⟨false, sv.limit, sv.cls⟩ := by
      rw [Station.target, Station.targetClosed, service]
      simp [retiring]
    have enforced : st.pushPending = false ↔ ack = ⟨false, sv.limit, sv.cls⟩ := by
      rw [Station.pushPending, service]
      simp [line, acknowledged, target]
    have ready : st.ready = (!st.pushPending && (!ack.closed && decide (ack.limit = 0))) := by
      rw [Station.ready, service]
      simp [retiring, acknowledged]
    rw [ready, Bool.and_eq_true, Bool.not_eq_true', enforced]
    obtain ⟨closed, limit, cls⟩ := ack
    simp only [Settings.mk.injEq, Bool.and_eq_true, Bool.not_eq_true', decide_eq_true_eq, retiring, true_and]
    constructor
    · rintro ⟨⟨rfl, rfl, rfl⟩, -, none⟩
      exact ⟨rfl, none, none, rfl⟩
    · rintro ⟨rfl, rfl, none, rfl⟩
      exact ⟨⟨rfl, none.symm, rfl⟩, rfl, rfl⟩
  · have unready : st.ready = false := by
      rw [Station.ready, decide_eq_false retiring]
      rfl
    simp [unready, retiring]

theorem readyTest_of_ready (here : s.station n = some st) (ready : st.ready = true) (idle : st.mute = .idle) :
    s.readyTest n = s.wantMute n := by
  rw [State.readyTest, here]
  exact if_pos (by rw [ready, idle]; rfl)

theorem readyTest_of_other (here : s.station n = some st) (other : ¬ st.ready = true ∨ st.mute ≠ .idle) : s.readyTest n = s := by
  rw [State.readyTest, here]
  refine if_neg fun both => ?_
  obtain ⟨ready, idle⟩ := (Bool.and_eq_true _ _).mp both
  exact other.elim (fun unready => unready ready) fun placed => placed (of_decide_eq_true idle)

theorem setMute_record_ne {k : Slot} (other : k ≠ n) (m : MuteErrand) (s : State) : (s.setMute n m).record k = s.record k := by
  unfold State.setMute
  split
  · exact record_setRecord_ne n k _ s (Ne.symm other)
  · rfl

theorem placeWantedMute_record_ne {k : Slot} (other : k ≠ n) (s : State) : (s.placeWantedMute n).record k = s.record k := by
  unfold State.placeWantedMute
  split
  · rfl
  · split
    · exact setMute_record_ne other _ s
    · split
      · split
        · rfl
        · exact setMute_record_ne other _ (s.withEngine _)
      · split
        · exact setMute_record_ne other _ (s.withEngine _)
        · rfl

/-- R83: the readiness test of a record touches no other record. -/
theorem readyTest_record_ne {k : Slot} (other : k ≠ n) (s : State) : (s.readyTest n).record k = s.record k := by
  unfold State.readyTest
  split
  · split
    · exact (placeWantedMute_record_ne other _).trans (setMute_record_ne other _ s)
    · rfl
  · rfl

theorem readyTest_hold (n : Slot) (s : State) : (s.readyTest n).engine.hold = s.engine.hold :=
  show (s.readyTest n).engine.exceptErrands.hold = _ by rw [(readyTest_errandsOnly n s).engine]; rfl

/-! ### The push hold set (R144) -/

theorem mem_leaveHold (k n : Slot) (e : Engine) : k ∈ (e.leaveHold n).hold ↔ k ∈ e.hold ∧ k ≠ n := by
  simp [Engine.leaveHold]

theorem mem_joinHold (k n : Slot) (e : Engine) : k ∈ (e.joinHold n).hold ↔ k ∈ e.hold ∨ k = n := by
  unfold Engine.joinHold
  split
  · next held =>
    refine (or_iff_left_of_imp ?_).symm
    rintro rfl
    exact List.contains_iff_mem.mp held
  · simp

theorem disobeyed_iff {sent : Settings} (here : s.station n = some st) (service : st.service = some sv) (line : st.onLine = true) :
    s.disobeyed n sent = true ↔ sv.ack ≠ some (st.target sv) ∧ st.target sv = sent := by
  have target : s.targetAt n = some (st.target sv) := by rw [targetAt_eq, here, Option.map_some, service]; rfl
  have pending : st.pushPending = decide (sv.ack ≠ some (st.target sv)) := by
    rw [Station.pushPending, service, line]
    exact Bool.true_and _
  rw [State.disobeyed, here]
  dsimp only
  rw [target, pending, Bool.and_eq_true, decide_eq_true_eq, decide_eq_true_eq, Option.some.injEq]

end

/-- R144: after a report the slot leaves the push hold set, or joins it where the order was disobeyed. -/
def State.heldAfter (n : Slot) (order : Option Settings) (s : State) : State :=
  match order with
  | none => s.withEngine (Engine.leaveHold n)
  | some sent => if s.disobeyed n sent then s.withEngine (Engine.joinHold n) else s

theorem heldAfter_eq (n : Slot) (order : Option Settings) (s : State) : ∃ h, s.heldAfter n order =
    { s with engine := { s.engine with hold := h } } := by
  have joined : ∃ h, s.engine.joinHold n = { s.engine with hold := h } := by
    unfold Engine.joinHold
    split
    · exact ⟨s.engine.hold, rfl⟩
    · exact ⟨_, rfl⟩
  unfold State.heldAfter
  split
  · exact ⟨_, rfl⟩
  · split
    · obtain ⟨h, eq⟩ := joined
      exact ⟨h, by rw [State.withEngine, eq]⟩
    · exact ⟨s.engine.hold, rfl⟩

/-! ### O32 -/

theorem trip_cases (trip : Byte) (defined : trip.toNat ≤ 2) : trip = 0 ∨ trip = 1 ∨ trip = 2 := by
  rcases trip with ⟨⟨_ | _ | _ | n, h⟩⟩
  · exact .inl rfl
  · exact .inr (.inl rfl)
  · exact .inr (.inr rfl)
  · simp at defined

/-- R188: the trip indication of a REPORT. -/
def reasonOf (trip : Byte) : Option TripReason := if trip = 1 then some .overcurrent else if trip = 2 then some .leakage else none

section

variable {st : Station} {sv : Service} {trip : Byte}

/-- R89: what the trip indication of a REPORT makes of a record. -/
theorem reported_eq (defined : trip.toNat ≤ 2) (ack : Settings) (demand : Nat) :
    sv.reported (st.newTrip sv (reasonOf trip)) ack demand = { sv with
      ack := some ack
      demand := some (min demand 4095)
      pushDeferred := false
      condition :=
        if st.life = .enrolled ∧ trip ≠ 0 ∧ sv.condition.isTrip = false ∧ sv.ackClosed = true then
          (if trip = 2 then .isolated .leakage
          else if sv.tripCount then .isolated .overcurrent
          else .tripped (some 60000000))
        else sv.condition
      tripCount := sv.tripCount ||
        decide ((st.life = .enrolled ∧ trip ≠ 0 ∧ sv.condition.isTrip = false ∧ sv.ackClosed = true) ∧ trip = 1)
      live := if st.life = .enrolled ∧ trip ≠ 0 ∧ sv.condition.isTrip = false ∧ sv.ackClosed = true then 0 else sv.live } := by
  by_cases may : st.life = .enrolled ∧ sv.condition.isTrip = false ∧ sv.ackClosed = true
  · rw [Station.newTrip, if_pos may]
    obtain ⟨enrolled, free, closed⟩ := may
    rcases trip_cases trip defined with rfl | rfl | rfl
    · simp [reasonOf, Service.reported, Service.trips, demandBound]
    · simp [reasonOf, Service.reported, Service.trips, demandBound, tripCondition, tripCountAfter, enrolled, free, closed,
        Config.recloseTime]
    · simp [reasonOf, Service.reported, Service.trips, demandBound, tripCondition, tripCountAfter, enrolled, free, closed]
  · have never : ¬ (st.life = .enrolled ∧ trip ≠ 0 ∧ sv.condition.isTrip = false ∧ sv.ackClosed = true) :=
      fun ⟨enrolled, _, free, closed⟩ => may ⟨enrolled, free, closed⟩
    rw [Station.newTrip, if_neg may, if_neg never, if_neg never, decide_eq_false fun h => never h.1, Bool.or_false]
    rfl

theorem newTrip_isSome (defined : trip.toNat ≤ 2) : (st.newTrip sv (reasonOf trip)).isSome =
    decide (st.life = .enrolled ∧ trip ≠ 0 ∧ sv.condition.isTrip = false ∧ sv.ackClosed = true) := by
  rw [Station.newTrip]
  rcases trip_cases trip defined with rfl | rfl | rfl
  · simp [reasonOf]
  all_goals
    split
    · next may => rw [decide_eq_true ⟨may.1, by decide, may.2⟩]; rfl
    · next never => rw [decide_eq_false fun h => never ⟨h.1, h.2.2⟩]; rfl

end

end Sys2Proof.Machine

/-! ## Proofs: a REPORT and a TAKE read from their characters -/

namespace Sys2Proof.Machine

/-- The line port after a turn has ended. -/
def State.quieted (s : State) : State := { s with port := s.port.toQuiet }

/-- R126, R144: a valid REPORT to a QUERY or an ORDER. -/
theorem outcome_report (m : Message) (n : Slot) (order : Option Settings) {c : Content} {k : Kind} (s : State) (kind : c.kind = k)
    (asked : m = match order with | none => .query n | some sent => .order n sent) :
    State.outcome ⟨m, some k, false⟩ (.frame (.report (stationNumber n) c)) s = (s.report n c).heldAfter n order := by
  subst asked
  cases order with
  | none => exact outcome_query n s kind
  | some sent => exact outcome_order n sent s kind

/-- R83: what the readiness test leaves a record as, and the errand queue. -/
theorem readyTest_spec (n : Slot) {s : State} {st : Station} (here : s.station n = some st) :
    (¬ st.ready = true ∨ st.mute ≠ .idle → (s.readyTest n).record n = s.record n ∧ (s.readyTest n).engine = s.engine) ∧
    (st.ready = true → st.mute = .idle → s.engine.hasErrand st.serial = false → s.engine.errands.length < 4 →
      (s.readyTest n).record n = ⟨(s.record n).changed, some { st with mute := .queued }⟩ ∧
        (s.readyTest n).engine.errands = s.engine.errands ++ [.mute st.serial]) ∧
    ∃ su, (s.readyTest n).station n = some su ∧ su.exceptMute = st.exceptMute := by
  refine ⟨fun other => ?_, fun ready idle free room => ?_, ?_⟩
  · rw [readyTest_of_other here other]
    exact ⟨rfl, rfl⟩
  · rw [readyTest_of_ready here ready idle, wantMute_of_room here free room]
    exact ⟨record_setRecord_self n _ s, rfl⟩
  · have alike := (readyTest_errandsOnly n s).station n
    rw [here, Option.map_some] at alike
    obtain ⟨su, there, same⟩ := Option.map_eq_some_iff.mp alike
    exact ⟨su, there, same⟩

/-! ### The push hold set after a REPORT (R144) -/

theorem mem_heldAfter_ne {k n : Slot} (order : Option Settings) (v : State) (other : k ≠ n) :
    k ∈ (v.heldAfter n order).engine.hold ↔ k ∈ v.engine.hold := by
  unfold State.heldAfter
  split
  · exact (mem_leaveHold k n v.engine).trans (and_iff_left other)
  · split
    · exact (mem_joinHold k n v.engine).trans (or_iff_left other)
    · rfl

theorem not_mem_heldAfter_query (n : Slot) (v : State) : n ∉ (v.heldAfter n none).engine.hold :=
  fun mem => ((mem_leaveHold n n v.engine).mp mem).2 rfl

theorem mem_heldAfter_order (n : Slot) (sent : Settings) (v : State) :
    n ∈ (v.heldAfter n (some sent)).engine.hold ↔ n ∈ v.engine.hold ∨ v.disobeyed n sent = true := by
  by_cases refused : v.disobeyed n sent = true
  · rw [show v.heldAfter n (some sent) = v.withEngine (Engine.joinHold n) from if_pos refused]
    exact (mem_joinHold n n v.engine).trans (iff_of_true (.inr rfl) (.inr refused))
  · rw [show v.heldAfter n (some sent) = v from if_neg refused]
    exact (or_iff_left refused).symm

/-- Settles O32. -/
theorem validReportUpdatesTheRecord : Obligations.ValidReportUpdatesTheRecord := by
  intro n st sv closed limit demand cls trip m s awake fresh here life service small defined phase framing turn asked reply
  have line : st.onLine = true := (onLine_iff st).mpr life
  have read : replyOf s.port.reply =
      some (.report (stationNumber n) (.service ⟨closed, min limit.toNat 4095, cls.toNat⟩ demand.toNat (reasonOf trip))) := by
    rw [reply]
    refine (replyOf_report _ _ _ _ _ _ _ _ _ _).trans ?_
    rw [reportContent_service _ closed limit demand cls trip small defined]
    rfl
  have order : ∃ order : Option Settings, m = match order with | none => .query n | some sent => .order n sent := by
    rcases asked with query | ⟨sent, order⟩
    · exact ⟨none, query⟩
    · exact ⟨some sent, order⟩
  obtain ⟨order, asked⟩ := order
  obtain ⟨a, written⟩ := serviceReport_wrote (s := s.quieted) ⟨closed, min limit.toNat 4095, cls.toNat⟩ demand.toNat
    (reasonOf trip) here service line
  have row : exec .replyEnd s = .next (State.settle s s.replyOver) := expiry_of_fresh .replyEnd _ s awake fresh
  rw [replyOver_of_frame phase framing read turn rfl, outcome_report m n order (k := .service) _ rfl asked] at row
  change exec .replyEnd s = .next (State.settle s ((s.quieted.serviceReport n _ _ _).heldAfter n order)) at row
  rw [written, reported_eq defined, newTrip_isSome defined] at row
  intro newTrip sv' st' changed ready
  change exec .replyEnd s = .next (State.settle s (((s.quieted.wrote n changed st' a).readyTest n).heldAfter n order)) at row
  have isReady : st'.ready = true ↔ ready := by
    refine (ready_iff (st := st') (sv := sv') rfl rfl).trans ?_
    have none : min limit.toNat 4095 = 0 ↔ limit = 0 := by
      rw [← BitVec.toNat_inj]
      show _ ↔ limit.toNat = 0
      omega
    show _ ∧ _ ∧ min limit.toNat 4095 = 0 ∧ _ ∧ _ ↔ _
    rw [none]
  obtain ⟨unready, queued, su, there, alike⟩ := readyTest_spec n (wrote_station n changed st' a s.quieted)
  have others := fun k (other : k ≠ n) => (readyTest_record_ne other (s.quieted.wrote n changed st' a)).trans
    (wrote_record_ne other changed st' a s.quieted)
  have hold : ((s.quieted.wrote n changed st' a).readyTest n).engine.hold = s.engine.hold := readyTest_hold n _
  have kept := readyTest_exceptEngine n (s.quieted.wrote n changed st' a)
  rw [wrote_record] at unready queued
  generalize (s.quieted.wrote n changed st' a).readyTest n = v at *
  have block {α : Type} (b : State → α) (left : ∀ t : State, b t.exceptTable.exceptEngine = b t) :
      b v = b (s.quieted.wrote n changed st' a) := block_of_blank b (fun t => t.exceptTable.exceptEngine) left kept
  have port : v.port = s.quieted.port := block State.port (by rintro ⟨⟩; rfl)
  have gov : v.gov = s.gov := block State.gov (by rintro ⟨⟩; rfl)
  have water : v.water = s.water := block State.water (by rintro ⟨⟩; rfl)
  obtain ⟨h, held⟩ := heldAfter_eq n order v
  have disobeyed : ∀ sent, v.disobeyed n sent = true ↔ sv'.ack ≠ some (st'.target sv') ∧ st'.target sv' = sent := by
    intro sent
    have onLine : su.onLine = true := (congrArg Station.onLine alike).trans line
    have served : su.service = some sv' := congrArg Station.service alike
    have target : su.target sv' = st'.target sv' := by
      show su.exceptMute.target sv' = st'.exceptMute.target sv'
      rw [alike]
    rw [disobeyed_iff there served onLine, target]
  refine ⟨_, row, ?_, ?_, ?_, fun idle => ?_, fun isNow idle free room => ?_, fun k other => ⟨?_, hold ▸ mem_heldAfter_ne order v other⟩,
    fun query => ?_, fun sent ordered => ?_⟩
  · rw [held, port]
    rfl
  · rw [held, gov]
  · rw [held, water]
  · rw [held]
    obtain ⟨record, engine⟩ := unready (idle.imp_left (mt isReady.mp))
    exact ⟨record, by rw [engine]; rfl⟩
  · rw [held]
    exact queued (isReady.mpr isNow) idle free room
  · rw [held]
    exact others k other
  · cases order with
    | none => exact not_mem_heldAfter_query n v
    | some sent => cases asked.symm.trans query
  · cases order with
    | none => cases asked.symm.trans ordered
    | some sent' =>
      cases asked.symm.trans ordered
      rw [← hold]
      refine (mem_heldAfter_order n sent v).trans (or_congr_right ((disobeyed sent).trans ?_))
      constructor
      · exact fun ⟨differs, same⟩ => ⟨same, same ▸ differs⟩
      · exact fun ⟨same, differs⟩ => ⟨same ▸ differs, same⟩

/-! ### A TAKE (R84) -/

section

variable {s : State} {n : Slot} {st : Station} {sv : Service}

theorem admission_congr {u : State} (x : Nat) (room : u.room = s.room) (committed : u.committed = s.committed) :
    u.admission x = s.admission x := by
  rw [State.admission, State.admission, State.overcommitted, State.overcommitted, room, committed]

/-- R84 step 3: the condition at enrollment. -/
def enrolledCondition (sv : Service) (closed : Bool) (trip : Option TripReason) (answer : Admission) : Condition :=
  if enrolAsks sv closed trip then (if answer = .granted then .connected else .shed none true) else enrolCondition sv closed trip

/-- R84: an enrolled record, with what its station enforces. -/
def Service.enrolled (sv : Service) (ack : Settings) (demand : Nat) (trip : Option TripReason) (c : Condition) : Service :=
  { sv with
    ack := some ack, demand := some (min demand demandBound), condition := c
    tripCount := decide (trip = some .overcurrent), live := 0, pushDeferred := false }

def Station.enrolled (st : Station) (sv : Service) : Station :=
  { st with life := .enrolled, missed := 0, silence := none, mute := .idle, service := some sv }

theorem setService_enrolled_eq (c : Bool) (a : Half) (sw sx : Service) :
    (s.wrote n c (st.enrolled sw) a).setService n { st with life := .enrolled, missed := 0, silence := none, mute := .idle } sx =
      s.wrote n c (st.enrolled sx) a := wrote_setStation n c _ _ a s

/-- R74, R98: where admission is asked, the record has no share yet. -/
theorem enrolled_admission (here : s.station n = some st) (provisioned : st.life = .provisioned) {ack : Settings} {demand : Nat}
    {trip : Option TripReason} (asks : enrolAsks sv ack.closed trip = true) (c : Bool) (a : Half) (x : Nat) :
    (s.wrote n c (st.enrolled (sv.enrolled ack demand trip (enrolCondition sv ack.closed trip))) a).admission x =
      s.admission x := by
  simp only [enrolAsks, Bool.and_eq_true, Option.isNone_iff_eq_none, Bool.not_eq_true'] at asks
  obtain ⟨⟨⟨rfl, opened⟩, -⟩, -⟩ := asks
  refine admission_congr x rfl (committed_congr (fun k => ?_) rfl)
  by_cases same : k = n
  · subst same
    have before : (s.record k).share = st.share := by rw [Record.share, show (s.record k).station = some st from here]
    rw [wrote_record, before]
    show Station.share _ = Station.share st
    simp [Station.share, Station.onLine, provisioned, Station.enrolled, Station.ackShare, Station.intendedShare, Service.enrolled,
      Station.targetClosed, opened, enrolCondition]
  · rw [wrote_record_ne same]

/-- R84: the enrollment of a Provisioned Service record. -/
theorem enrol_wrote (ack : Settings) (demand : Nat) (trip : Option TripReason) (here : s.station n = some st)
    (provisioned : st.life = .provisioned) (service : st.service = some sv) : ∃ a, s.enrol n st (.service ack demand trip) =
      s.wrote n true (st.enrolled (sv.enrolled ack demand trip
        (enrolledCondition sv ack.closed trip (s.admission sv.limit)))) a := by
  have first : s.setService n { st with life := .enrolled, missed := 0, silence := none, mute := .idle }
      (sv.enrolled ack demand trip (enrolCondition sv ack.closed trip)) =
        s.wrote n (s.record n).changed (st.enrolled (sv.enrolled ack demand trip (enrolCondition sv ack.closed trip))) s.attn := rfl
  have written : s.enrol n st (.service ack demand trip) =
      let t := s.setService n { st with life := .enrolled, missed := 0, silence := none, mute := .idle }
        (sv.enrolled ack demand trip (enrolCondition sv ack.closed trip))
      (if enrolAsks sv ack.closed trip then
        t.setService n { st with life := .enrolled, missed := 0, silence := none, mute := .idle }
          (sv.enrolled ack demand trip (if t.admission sv.limit = .granted then .connected else .shed none true))
      else t).markChanged n := by
    simp only [State.enrol, service]
    rfl
  rw [written, first]
  dsimp only
  cases asks : enrolAsks sv ack.closed trip with
  | true =>
    rw [if_pos rfl, enrolled_admission here provisioned asks, setService_enrolled_eq, wrote_markChanged, enrolledCondition,
      if_pos asks]
    exact ⟨_, rfl⟩
  | false =>
    rw [if_neg Bool.false_ne_true, wrote_markChanged, enrolledCondition, if_neg (Bool.eq_false_iff.mp asks)]
    exact ⟨_, rfl⟩

theorem takeReply_of_provisioned (c : Content) (here : s.station n = some st) (provisioned : st.life = .provisioned) :
    s.takeReply st.serial n c = s.enrol n st c := by
  rw [State.takeReply, here]
  dsimp only
  rw [if_pos rfl, provisioned]

/-- R83: a freed place is for a record that is Wanted; another keeps its record. -/
theorem placeFreed_record (here : s.station n = some st) (other : st.mute ≠ .wanted) : s.placeFreed.record n = s.record n := by
  unfold State.placeFreed
  split
  · next m found =>
    have wanted := List.find?_some found
    refine placeWantedMute_record_ne (fun same => ?_) s
    rw [← same, here] at wanted
    exact other (of_decide_eq_true wanted)
  · rfl

end

theorem outcome_assign (x : Serial) (n : Slot) {c : Content} {k : Kind} (s : State) (kind : c.kind = k) :
    State.outcome ⟨.assign x n, some k, false⟩ (.frame (.take (stationNumber n) x c)) s = s.assignTaken x n c := by
  simp [State.outcome, judgeTake, kind]

/-- R84 step 3: the condition at enrollment by the trip indication of the TAKE. -/
theorem enrolledCondition_eq {sv : Service} {trip : Byte} (closed : Bool) (answer : Admission) (defined : trip.toNat ≤ 2) :
    enrolledCondition sv closed (reasonOf trip) answer =
      if trip = 2 then .isolated .leakage
      else if trip = 1 then .tripped (some 60000000)
      else if closed then (if 10 ≤ sv.limit then .connected else .off)
      else if sv.connectOnEnrol = true ∧ 10 ≤ sv.limit then
        (if answer = .granted then .connected else .shed none true)
      else .off := by
  rcases trip_cases trip defined with rfl | rfl | rfl
  · cases closed
    · simp only [enrolledCondition, enrolAsks, enrolCondition, reasonOf]
      simp
      rfl
    · simp only [enrolledCondition, enrolAsks, enrolCondition, reasonOf]
      simp
      rfl
  · simp [enrolledCondition, enrolAsks, enrolCondition, reasonOf, Config.recloseTime]
  · simp [enrolledCondition, enrolAsks, enrolCondition, reasonOf]

/-- R83: the use of a freed place touches neither a record that is not Wanted nor the lifecycles. -/
theorem facts_of_freed {n : Slot} {w u : State} {st : Station} (last : u = w ∨ u = w.placeFreed) (here : w.station n = some st)
    (other : st.mute ≠ .wanted) : u.record n = w.record n ∧ u.port = w.port ∧ u.gov = w.gov ∧ u.water = w.water ∧
      ∀ m, (u.station m).map Station.life = (w.station m).map Station.life := by
  rcases last with rfl | rfl
  · exact ⟨rfl, rfl, rfl, rfl, fun _ => rfl⟩
  · have block {α : Type} (b : State → α) (left : ∀ t : State, b t.exceptTable.exceptEngine = b t) : b w.placeFreed = b w :=
      block_of_blank b (fun t => t.exceptTable.exceptEngine) left (placeFreed_exceptEngine w)
    exact ⟨placeFreed_record here other, block State.port (by rintro ⟨⟩; rfl), block State.gov (by rintro ⟨⟩; rfl),
      block State.water (by rintro ⟨⟩; rfl),
      fun m => view_of_exceptMute Station.life (fun _ => rfl) ((placeFreed_errandsOnly w).station m)⟩

/-- Settles O33. -/
theorem validTakeEnrolsTheRecord : Obligations.ValidTakeEnrolsTheRecord := by
  intro n st sv closed limit demand cls trip s awake fresh here provisioned service small defined phase framing turn reply
  have read : replyOf s.port.reply = some (.take (stationNumber n) st.serial
      (.service ⟨closed, min limit.toNat 4095, cls.toNat⟩ demand.toNat (reasonOf trip))) := by
    rw [reply]
    refine (replyOf_take _ _ _ _ _ _ _ _ _ _ _).trans ?_
    rw [reportContent_service _ closed limit demand cls trip small defined]
    rfl
  have row : exec .replyEnd s = .next (State.settle s s.replyOver) := expiry_of_fresh .replyEnd _ s awake fresh
  rw [replyOver_of_frame phase framing read turn rfl, outcome_assign st.serial n (k := .service) _ rfl] at row
  change exec .replyEnd s = .next (State.settle s (s.quieted.assignTaken st.serial n _)) at row
  have taken : ∀ q : State, q.station n = some st → q.admission sv.limit = s.admission sv.limit → ∃ a,
      q.takeReply st.serial n (.service ⟨closed, min limit.toNat 4095, cls.toNat⟩ demand.toNat (reasonOf trip)) =
        q.wrote n true (st.enrolled (sv.enrolled ⟨closed, min limit.toNat 4095, cls.toNat⟩ demand.toNat (reasonOf trip)
          (enrolledCondition sv closed (reasonOf trip) (s.admission sv.limit)))) a := by
    intro q there same
    rw [takeReply_of_provisioned _ there provisioned, ← same]
    exact enrol_wrote _ _ _ there provisioned service
  have placed : ∃ (q : State) (a : Half) (u : State), s.quieted.assignTaken st.serial n
        (.service ⟨closed, min limit.toNat 4095, cls.toNat⟩ demand.toNat (reasonOf trip)) = u ∧
      (∀ k, q.record k = s.record k) ∧ q.port = s.quieted.port ∧ q.gov = s.gov ∧ q.water = s.water ∧
      ∃ w, w = q.wrote n true (st.enrolled (sv.enrolled ⟨closed, min limit.toNat 4095, cls.toNat⟩ demand.toNat (reasonOf trip)
          (enrolledCondition sv closed (reasonOf trip) (s.admission sv.limit)))) a ∧ (u = w ∨ u = w.placeFreed) := by
    unfold State.assignTaken
    split
    · obtain ⟨a, eq⟩ := taken (s.quieted.withEngine (Engine.dropAssign st.serial n)) here rfl
      exact ⟨s.quieted.withEngine (Engine.dropAssign st.serial n), a, _, rfl, fun _ => rfl, rfl, rfl, rfl, _, rfl,
        .inr (congrArg State.placeFreed eq)⟩
    · obtain ⟨a, eq⟩ := taken s.quieted here rfl
      exact ⟨s.quieted, a, _, rfl, fun _ => rfl, rfl, rfl, rfl, _, rfl, .inl eq⟩
  obtain ⟨q, a, u, eq, table, port, gov, water, w, rfl, last⟩ := placed
  rw [eq] at row
  have tripCount : decide (reasonOf trip = some .overcurrent) = decide (trip = 1) := by
    rcases trip_cases trip defined with rfl | rfl | rfl <;> rfl
  intro condition
  have conditionEq : enrolledCondition sv closed (reasonOf trip) (s.admission sv.limit) = condition :=
    enrolledCondition_eq closed _ defined
  rw [conditionEq] at last
  obtain ⟨record, portKept, govKept, waterKept, lives⟩ := facts_of_freed last (wrote_station n true _ a q) nofun
  refine ⟨u, row, ?_, govKept.trans gov, waterKept.trans water, ?_, fun m other => (lives m).trans ?_⟩
  · rw [portKept]
    exact congrArg LinePort.phase port
  · rw [record, wrote_record, Service.enrolled, tripCount]
    rfl
  · rw [State.station, wrote_record_ne other, table]
    rfl

end Sys2Proof.Machine

/-! ## Proofs: the phases of a turn (07_the_field_line.md 7.5) -/

namespace Sys2Proof.Machine

section

variable {s : State} {t : Turn} {n : Slot} {st : Station} {x : Serial}

/-! ### Sent events (R125, R142, R143) -/

/-- R125: the sent event of a turn that is not void. -/
theorem transmissionOver_of_sent (phase : s.port.phase = .transmitting) (turn : s.port.turn = some t)
    (silent : t.message.expectsReply = false) (whole : t.void = false) : s.transmissionOver = s.quieted.sent t.message := by
  have awaits : s.port.awaitsReply = false := by rw [LinePort.awaitsReply, turn]; exact silent
  have sent : s.quieted.handSent = s.quieted.sent t.message := by
    rw [State.handSent, show s.quieted.port.turn = some t from turn]
    dsimp only
    rw [whole]
    rfl
  rw [State.transmissionOver, phase]
  dsimp only
  rw [awaits]
  exact sent

/-- R128: a void turn hands over nothing. -/
theorem transmissionOver_of_void (phase : s.port.phase = .transmitting) (turn : s.port.turn = some t)
    (silent : t.message.expectsReply = false) (void : t.void = true) : s.transmissionOver = s.quieted := by
  have awaits : s.port.awaitsReply = false := by rw [LinePort.awaitsReply, turn]; exact silent
  have sent : s.quieted.handSent = s.quieted := by
    rw [State.handSent, show s.quieted.port.turn = some t from turn]
    exact if_pos void
  rw [State.transmissionOver, phase]
  dsimp only
  rw [awaits]
  exact sent

theorem transmissionOver_of_reply (phase : s.port.phase = .transmitting) (turn : s.port.turn = some t)
    (expects : t.message.expectsReply = true) :
    s.transmissionOver = { s with port := { s.port with phase := .window, timer := some 25000 } } := by
  have awaits : s.port.awaitsReply = true := by rw [LinePort.awaitsReply, turn]; exact expects
  rw [State.transmissionOver, phase]
  dsimp only
  rw [awaits]
  rfl

/-- R70: the record that alone holds a serial. -/
theorem holder_eq_some (here : s.station n = some st) (serial : st.serial = x)
    (alone : ∀ m su, s.station m = some su → su.serial = x → m = n) : s.holder x = some n := by
  refine (slots_find_iff _ n).mpr ⟨by rw [here]; exact decide_eq_true serial, fun m lower => ?_⟩
  cases there : s.station m with
  | none => rfl
  | some su => exact decide_eq_false fun same => absurd (alone m su there same) (ne_of_lt lower)

/-- R83, R143: a MUTE makes the Retiring record of its serial Vacant. -/
theorem muteSent_of_retiring (here : s.station n = some st) (serial : st.serial = x)
    (alone : ∀ m su, s.station m = some su → su.serial = x → m = n) (retiring : st.life = .retiring) :
    s.muteSent x = { s with
      table := s.table.set n ⟨true, none⟩
      attn := if (s.record n).changed then s.attn else s.attn ||| 0x1000
      water := if st.service = none then ⟨s.water.plan.map (fun p => { p with inForce := 1 }), .absent, none, none⟩
        else s.water } := by
  have marked : ∀ w : Water, { s.setRecord n { s.record n with station := none } with water := w }.markChanged n = { s with
      table := s.table.set n ⟨true, none⟩
      attn := if (s.record n).changed then s.attn else s.attn ||| 0x1000
      water := w } := by
    intro w
    have record : { s.setRecord n { s.record n with station := none } with water := w }.record n = ⟨(s.record n).changed, none⟩ :=
      record_setRecord_self n _ s
    cases flag : (s.record n).changed with
    | true =>
      rw [markChanged_of_set n _ (by rw [record, flag]), ← flag]
      simp [State.setRecord, flag]
    | false =>
      rw [markChanged_of_clear n _ (by rw [record, flag]), record]
      simp [State.setRecord, State.raise, Attn.bit]
  rw [State.muteSent, holder_eq_some here serial alone]
  dsimp only
  rw [here]
  dsimp only
  rw [if_pos retiring, State.vacate, here]
  dsimp only
  cases service : st.service with
  | none => exact marked s.water.gaugeGone
  | some sv => exact marked s.water

theorem muteSent_of_none (none : ∀ m su, s.station m = some su → su.serial = x → su.life ≠ .retiring) : s.muteSent x = s := by
  unfold State.muteSent
  split
  · next m found =>
    split
    · next su there =>
      have held := List.find?_some found
      rw [there] at held
      exact if_neg (none m su there (of_decide_eq_true held))
    · rfl
  · rfl

/-! ### The end of the reply window and of a reply (R124, R128) -/

/-- R124, R125: however a reply ends, its outcome is taken in Quiet. -/
theorem windowOver_eq (phase : s.port.phase = .window) : s.windowOver = s.quieted.handOutcome .absent := by
  rw [State.windowOver, phase]
  rfl

theorem replyOver_eq (phase : s.port.phase = .receiving) :
    s.replyOver = s.quieted.handOutcome (heardOf s.port.framing s.port.reply) := by
  rw [State.replyOver, phase]
  rfl

theorem replyTooLong_eq (phase : s.port.phase = .receiving) : s.replyTooLong = s.quieted.handOutcome .garbled := by
  rw [State.replyTooLong, phase]
  rfl

theorem handOutcome_of_void (h : Heard) (turn : s.port.turn = some t) (void : t.void = true) :
    s.quieted.handOutcome h = s.quieted := by
  rw [State.handOutcome, show s.quieted.port.turn = some t from turn]
  exact if_pos void

theorem handOutcome_of_whole (h : Heard) (turn : s.port.turn = some t) (whole : t.void = false) :
    s.quieted.handOutcome h = s.quieted.outcome t h := handOutcome_of_turn h turn whole

end

/-- R124: a start bit within a reply adds its character and starts the gap again. -/
theorem startBit_of_receiving {p : LinePort} (char : Byte) (bad : Bool) (phase : p.phase = .receiving) :
    p.startBit char bad = { p with reply := p.reply ++ [char], framing := p.framing || bad, gap := some 4042 } := by
  unfold LinePort.startBit
  dsimp only
  split
  · next window => cases phase.symm.trans window
  · rfl
  all_goals next other => cases phase.symm.trans other

/-- Settles O30. -/
theorem linePortPhasesFollowTheTurn : Obligations.LinePortPhasesFollowTheTurn := by
  intro s awake
  refine ⟨fun phase fresh => ?transmitting, fun t turn void => ?void, fun samples stop seen => ?startBit,
    fun samples stop absent => ?excursion, fun phase fresh running => ?quiet⟩
  case transmitting =>
    have row : exec .transmissionEnd s = .next (State.settle s s.transmissionOver) :=
      expiry_of_fresh .transmissionEnd (settled State.transmissionOver) s awake fresh
    refine ⟨fun t turn expects => ?_, fun c amount e turn => ?_, fun x n st e turn here serial alone retiring => ?_,
      fun x e turn none => ?_, fun e turn => ?_, fun t turn void silent => ?_⟩
    · rw [row, transmissionOver_of_reply phase turn expects]
    · rw [row, transmissionOver_of_sent phase turn rfl rfl]
      rfl
    · rw [row, transmissionOver_of_sent phase turn rfl rfl]
      exact congrArg (fun u => Host.Outcome.next (State.settle s u)) (muteSent_of_retiring (s := s.quieted) here serial alone retiring)
    · rw [row, transmissionOver_of_sent phase turn rfl rfl]
      exact congrArg (fun u => Host.Outcome.next (State.settle s u)) (muteSent_of_none (s := s.quieted) none)
    · rw [row, transmissionOver_of_sent phase turn rfl rfl]
      rfl
    · rw [row, transmissionOver_of_void phase turn silent void]
      rfl
  case void =>
    refine ⟨fun phase fresh => ?_, fun phase fresh => ?_, fun phase fresh => ?_⟩
    · refine (expiry_of_fresh .replyWindowTimeout (settled State.windowOver) s awake fresh).trans ?_
      rw [settled, windowOver_eq phase, handOutcome_of_void _ turn void]
      rfl
    · refine (expiry_of_fresh .replyEnd (settled State.replyOver) s awake fresh).trans ?_
      rw [settled, replyOver_eq phase, handOutcome_of_void _ turn void]
      rfl
    · refine (expiry_of_fresh .replyLengthLimit (settled State.replyTooLong) s awake fresh).trans ?_
      rw [settled, replyTooLong_eq phase, handOutcome_of_void _ turn void]
      rfl
  case startBit =>
    have row : exec (.replyStartBit samples stop) s = .next { s with port := s.port.startBit (characterOf samples) (!stop) } :=
      (live_of_awake _ s awake).trans (congrArg _ (if_pos (by rw [startSeen, seen]; rfl)))
    refine ⟨fun phase => ?_, fun phase => ?_, fun window receiving => ?_⟩
    · rw [row, LinePort.startBit, phase]
      rfl
    · rw [row, startBit_of_receiving _ _ phase]
      rfl
    · rw [row, LinePort.startBit]
      cases phase : s.port.phase with
      | window => exact absurd phase window
      | receiving => exact absurd phase receiving
      | _ => rfl
  case excursion =>
    exact (live_of_awake _ s awake).trans (congrArg _ (if_neg (by rw [startSeen, absent]; exact Bool.false_ne_true)))
  case quiet =>
    refine (expiry_of_fresh .turnEnd (settled State.turnOver) s awake fresh).trans ?_
    rw [settled, turnOver_of_quiet phase, running]
    rfl

end Sys2Proof.Machine

/-! ## Proofs: misses, the roll call and the commands of the line engine (08_line_engine_and_enrollment.md) -/

namespace Sys2Proof.Machine

section

variable {s : State} {n : Slot} {st : Station} {sv : Service} {x : Serial} {e : Engine} {o : Origin} {a : Nat} {rest : List Errand}

/-! ### Misses (R88, R143) -/

/-- R88: a miss of an Answering record that is not its third. -/
theorem missedReply_query (here : s.station n = some st) (line : st.onLine = true) (answering : st.silence = none)
    (few : st.missed < 2) : s.missedReply n false = s.setStation n { st with missed := st.missed + 1 } := by
  have notThird : ¬ (st.silence.isNone && Decidable.decide (2 ≤ st.missed)) = true := by simp [answering, few]
  have counted : min 3 (st.missed + 1) = st.missed + 1 := by omega
  rw [State.missedReply, here]
  dsimp only
  rw [if_pos line, if_neg notThird, counted]
  rfl

/-- R88: a missed ORDER defers the push. -/
theorem missedReply_order (here : s.station n = some st) (line : st.onLine = true) (answering : st.silence = none)
    (few : st.missed < 2) (service : st.service = some sv) : s.missedReply n true =
      s.setStation n { st with missed := st.missed + 1, service := some { sv with pushDeferred := true } } := by
  have deferred : s.missedReply n true = (s.missedReply n false).deferPush n := by
    rw [State.missedReply, State.missedReply, here]
    dsimp only
    rw [if_pos line, if_pos line]
    rfl
  rw [deferred, missedReply_query here line answering few, State.deferPush,
    onLineService_of (setStation_station_self n { st with missed := st.missed + 1 } s) service line]
  exact setStation_setStation n _ _ s

theorem isAssign_self (x : Serial) (n : Slot) (o : Origin) (a : Nat) : (Errand.assign x n o a).isAssign x n = true := by
  simp [Errand.isAssign]

theorem attempts_of_head (queue : e.errands = .assign x n o a :: rest) : e.attempts x n = some (o, a) := by
  rw [Engine.attempts, queue, List.find?_cons, isAssign_self]

theorem dropAssign_of_head (queue : e.errands = .assign x n o a :: rest) (once : ∀ r ∈ rest, Errand.isAssign x n r = false) :
    e.dropAssign x n = { e with errands := rest } := by
  have kept : rest.filter (fun r => !r.isAssign x n) = rest := List.filter_eq_self.mpr fun r mem => by rw [once r mem]; rfl
  rw [Engine.dropAssign, queue, List.filter_cons, isAssign_self]
  exact congrArg (fun l => { e with errands := l }) kept

/-- R83: without a Wanted record a freed place is not used. -/
theorem placeFreed_of_none (none : ∀ m su, s.station m = some su → su.mute ≠ .wanted) : s.placeFreed = s := by
  unfold State.placeFreed
  split
  · next m found =>
    have wanted := List.find?_some found
    cases there : s.station m with
    | none => rw [there] at wanted; cases wanted
    | some su =>
      rw [there] at wanted
      exact absurd (of_decide_eq_true wanted) (none m su there)
  · rfl

/-- R143: an ASSIGN missed for the first or second time becomes the newest errand. -/
theorem assignMissed_of_few (queue : s.engine.errands = .assign x n o a :: rest)
    (once : ∀ r ∈ rest, Errand.isAssign x n r = false) (few : a < 2) :
    s.assignMissed x n = { s with engine := { s.engine with errands := rest ++ [.assign x n o (a + 1)] } } := by
  rw [State.assignMissed, attempts_of_head queue]
  dsimp only
  rw [if_pos few, State.withEngine, dropAssign_of_head queue once]
  rfl

/-- R143: the third miss gives the ASSIGN up. -/
theorem abandon_of_head (queue : s.engine.errands = .assign x n o a :: rest)
    (once : ∀ r ∈ rest, Errand.isAssign x n r = false) (none : ∀ m su, s.station m = some su → su.mute ≠ .wanted) :
    s.abandon x n = { s with
      engine := { s.engine with errands := rest, abandoned := min 255 (s.engine.abandoned + 1), lastAbandoned := some x }
      attn := s.attn ||| 0x0400 } := by
  rw [State.abandon, State.withEngine, dropAssign_of_head queue once]
  exact placeFreed_of_none none

theorem assignMissed_of_third (queue : s.engine.errands = .assign x n o 2 :: rest) : s.assignMissed x n = s.abandon x n := by
  rw [State.assignMissed, attempts_of_head queue]
  rfl

/-- R126: silence and a garbled reply are no REPORT and no TAKE. -/
theorem outcome_of_miss {h : Heard} (miss : h = .absent ∨ h = .garbled) (k : Option Kind) (s : State) :
    (∀ n, s.outcome ⟨.query n, k, false⟩ h = s.missedReply n false) ∧
      (∀ n sent, s.outcome ⟨.order n sent, k, false⟩ h = s.missedReply n true) ∧
      ∀ x n, s.outcome ⟨.assign x n, k, false⟩ h = s.assignMissed x n := by
  rcases miss with rfl | rfl <;> exact ⟨fun _ => rfl, fun _ _ => rfl, fun _ _ => rfl⟩

/-- R124, R125: the three ways in which a turn goes unanswered. -/
theorem unanswered_rows {t : Turn} {u : State} (awake : s.awake) (turn : s.port.turn = some t) (whole : t.void = false)
    (miss : ∀ h, h = .absent ∨ h = .garbled → s.quieted.outcome t h = u) :
    (s.port.phase = .window → s.stale .replyWindowTimeout = false →
      exec .replyWindowTimeout s = .next (State.settle s u)) ∧
    (s.port.phase = .receiving → s.stale .replyLengthLimit = false →
      exec .replyLengthLimit s = .next (State.settle s u)) ∧
    (s.port.phase = .receiving → (s.port.framing = true ∨ replyOf s.port.reply = none) → s.stale .replyEnd = false →
      exec .replyEnd s = .next (State.settle s u)) := by
  refine ⟨fun phase fresh => ?_, fun phase fresh => ?_, fun phase bad fresh => ?_⟩
  · refine (expiry_of_fresh .replyWindowTimeout (settled State.windowOver) s awake fresh).trans ?_
    rw [settled, windowOver_eq phase, handOutcome_of_whole _ turn whole, miss _ (.inl rfl)]
  · refine (expiry_of_fresh .replyLengthLimit (settled State.replyTooLong) s awake fresh).trans ?_
    rw [settled, replyTooLong_eq phase, handOutcome_of_whole _ turn whole, miss _ (.inr rfl)]
  · have garbled : heardOf s.port.framing s.port.reply = .garbled := by
      unfold heardOf
      rcases bad with framing | unread
      · rw [if_pos framing]
      · rw [unread, ite_self]
    refine (expiry_of_fresh .replyEnd (settled State.replyOver) s awake fresh).trans ?_
    rw [settled, replyOver_eq phase, garbled, handOutcome_of_whole _ turn whole, miss _ (.inr rfl)]

end

/-- Settles O31. -/
theorem unansweredTurnsAreMisses : Obligations.UnansweredTurnsAreMisses := by
  intro s awake
  refine ⟨fun n e st here life answering few => ⟨fun turn => ?_, fun sent sv turn service => ?_⟩,
    fun x n e o attempts rest turn queue once => ⟨fun few => ?_, fun third none => ?_⟩⟩
  · refine unanswered_rows awake turn rfl fun h miss => ((outcome_of_miss miss e s.quieted).1 n).trans ?_
    exact missedReply_query (s := s.quieted) here ((onLine_iff st).mpr life) answering few
  · refine unanswered_rows awake turn rfl fun h miss => ((outcome_of_miss miss e s.quieted).2.1 n sent).trans ?_
    exact missedReply_order (s := s.quieted) here ((onLine_iff st).mpr life) answering few service
  · refine unanswered_rows awake turn rfl fun h miss => ((outcome_of_miss miss e s.quieted).2.2 x n).trans ?_
    exact assignMissed_of_few (s := s.quieted) queue once few
  · subst third
    refine unanswered_rows awake turn rfl fun h miss => ((outcome_of_miss miss e s.quieted).2.2 x n).trans ?_
    exact (assignMissed_of_third (s := s.quieted) queue).trans (abandon_of_head (s := s.quieted) queue once none)

end Sys2Proof.Machine

/-! ## Proofs: the outcomes of a roll step (08_line_engine_and_enrollment.md 8.7) -/

namespace Sys2Proof.Machine

/-- R188: the eight characters of an ANSWER. -/
theorem replyOf_answer (number : Byte) (x : Serial) : replyOf (withCrc ([number, 0x82] ++ wordBytes x)) = some (.answer x) := by
  unfold replyOf
  rw [crc_withCrc, withCrc_dropLast, withCrc_length]
  simp [wordBytes, byte_append_wordBytes]

theorem heardOf_answer (number : Byte) (x : Serial) :
    heardOf false (withCrc ([number, 0x82] ++ wordBytes x)) = .frame (.answer x) := by
  rw [heardOf, if_neg Bool.false_ne_true, replyOf_answer]

theorem heardOf_framing (bytes : List Byte) : heardOf true bytes = .garbled := if_pos rfl

section

variable {s : State} {p : Prefix} {x : Serial} {n : Slot} {st : Station}

/-! ### The end of an enrollment (R149) -/

theorem endIfDone_of_stack (more : s.engine.stack ≠ []) : s.endIfDone = s := by
  unfold State.endIfDone
  split
  · exact if_neg fun done => more done.1
  · rfl
  · rfl

theorem endIfDone_of_empty (active : s.engine.enrolment = .active .byHost false) (done : s.engine.stack = [])
    (running : s.engine.stopping = false) : s.endIfDone = { s with
      engine := { s.engine with enrolment := .inactive, lastReport := some ⟨.byHost, .complete, s.engine.counts⟩ }
      attn := s.attn ||| 0x0400 } := by
  rw [State.endIfDone, active]
  dsimp only
  rw [if_pos ⟨done, running⟩]
  rfl

/-! ### The classes of an outcome (R147, R148) -/

theorem pushPrefixes_of_free (new : List Prefix) (free : ∀ q ∈ s.engine.stack, p.overlaps q = false) :
    s.pushPrefixes p new = { s with engine := { s.engine with stack := new ++ s.engine.stack } } :=
  if_neg fun hit => by
    obtain ⟨q, mem, overlap⟩ := List.any_eq_true.mp hit
    rw [free q mem] at overlap
    cases overlap

/-- R147: a Collision below length 32. -/
theorem rollClass_collision (short : p.len < 32) (active : s.engine.enrolment.isActive = true) (running : s.engine.stopping = false)
    (free : ∀ q ∈ s.engine.stack, p.overlaps q = false) :
    s.rollClass p .collision =
      { s with engine := { s.engine with stack := p.child false :: p.child true :: s.engine.stack } } := by
  rw [State.rollClass, if_pos short, State.splitPrefix, active, running]
  exact (if_pos rfl).trans (pushPrefixes_of_free _ free)

/-- R147: two stations with one serial. -/
theorem rollClass_duplicate (full : p.len = 32) : s.rollClass p .collision = { s with
    engine := { s.engine with
      counts := { s.engine.counts with duplicates := min 255 (s.engine.counts.duplicates + 1) } }
    attn := s.attn ||| 0x0400 } := by
  rw [State.rollClass, if_neg (by omega)]
  rfl

theorem hasMute_of_free (free : s.engine.hasErrand x = false) : s.engine.hasMute x = false :=
  Bool.eq_false_iff.mpr fun mute => by
    rw [hasErrand_of_hasMute mute] at free
    cases free

/-- R148: the serial of a record that is not Retiring gets an ASSIGN. -/
theorem cleanSerial_of_record (free : s.engine.hasErrand x = false) (here : s.station n = some st) (serial : st.serial = x)
    (alone : ∀ m su, s.station m = some su → su.serial = x → m = n) (staying : st.life ≠ .retiring)
    (room : s.engine.errands.length < 4) : s.cleanSerial p x = { s with engine := { s.engine with
      errands := s.engine.errands ++ [.assign x n .roll 0]
      counts := { s.engine.counts with matched := min 255 (s.engine.counts.matched + 1) } } } := by
  have place : s.engine.errandRoom = true := decide_eq_true room
  rw [State.cleanSerial, holder_eq_some here serial alone]
  dsimp only
  rw [here]
  dsimp only
  rw [if_neg fun h => staying h.1, free, place, hasMute_of_free free]
  rfl

section

variable (unheld : ∀ n st, s.station n = some st → st.serial ≠ x) (unlisted : x ∉ s.engine.strays)

include unheld unlisted

/-- R148: a serial that no record holds and that is not listed. -/
theorem cleanSerial_of_stranger (free : s.engine.hasErrand x = false) : s.cleanSerial p x =
    if s.engine.strays.length < 8 then
      if s.engine.errands.length < 4 then { s with
        engine := { s.engine with
          strays := s.engine.strays ++ [x]
          errands := s.engine.errands ++ [.mute x]
          counts := { s.engine.counts with strays := min 255 (s.engine.counts.strays + 1) } }
        attn := s.attn ||| 0x0800 }
      else s.pushPrefixes p [p]
    else { s with
      engine := { s.engine with
        overflow := true
        counts := { s.engine.counts with dropped := min 255 (s.engine.counts.dropped + 1) } }
      attn := s.attn ||| 0x0800 } := by
  have stranger : ¬ s.engine.strays.contains x = true := fun h => unlisted (List.contains_iff_mem.mp h)
  rw [State.cleanSerial, holder_eq_none unheld]
  dsimp only
  rw [if_neg stranger, free]
  by_cases places : s.engine.strays.length < 8
  · rw [if_pos places, if_pos (show s.engine.strays.length < Config.strayPlaces from places)]
    by_cases room : s.engine.errands.length < 4
    · have place : s.engine.errandRoom = true := decide_eq_true room
      rw [if_pos room, place]
      rfl
    · have full : s.engine.errandRoom = false := decide_eq_false room
      rw [if_neg room, full]
      rfl
  · rw [if_neg places, if_neg (show ¬ s.engine.strays.length < Config.strayPlaces from places)]
    rfl

end

/-- R126: what is handed over of a roll step. -/
theorem outcome_roll (p : Prefix) (e : Option Kind) (h : Heard) (s : State) :
    s.outcome ⟨.roll p, e, false⟩ h = (s.rollClass p (judgeRoll p h)).endIfDone := rfl

end

/-- Settles O34. -/
theorem rollOutcomesFollowTheirClass : Obligations.RollOutcomesFollowTheirClass := by
  intro p x e s awake turn active running freshWindow freshEnd
  have window : s.port.phase = .window → exec .replyWindowTimeout s = .next (State.settle s s.quieted.endIfDone) := fun phase => by
    refine (expiry_of_fresh .replyWindowTimeout (settled State.windowOver) s awake freshWindow).trans ?_
    rw [settled, windowOver_eq phase, handOutcome_of_whole _ turn rfl]
    rfl
  have reply : ∀ {c u}, s.port.phase = .receiving → judgeRoll p (heardOf s.port.framing s.port.reply) = c →
      (s.quieted.rollClass p c).endIfDone = u → exec .replyEnd s = .next (State.settle s u) := fun phase judged taken => by
    refine (expiry_of_fresh .replyEnd (settled State.replyOver) s awake freshEnd).trans ?_
    rw [settled, replyOver_eq phase, handOutcome_of_whole _ turn rfl, outcome_roll, judged, taken]
  refine ⟨fun phase more => ?_, fun phase done => ?_, fun phase framing short free => ?_, fun phase framing full more => ?_,
    fun phase framing heard begins free => ?_⟩
  · exact (window phase).trans (by rw [endIfDone_of_stack (s := s.quieted) more]; rfl)
  · exact (window phase).trans (by rw [endIfDone_of_empty (s := s.quieted) active done running]; rfl)
  · refine reply phase (c := .collision) (by rw [framing]; rfl) ?_
    rw [rollClass_collision (s := s.quieted) short (by rw [show s.quieted.engine.enrolment = _ from active]; rfl) running free]
    exact endIfDone_of_stack (List.cons_ne_nil _ _)
  · refine reply phase (c := .collision) (by rw [framing]; rfl) ?_
    rw [rollClass_duplicate (s := s.quieted) full]
    exact endIfDone_of_stack more
  · have clean : judgeRoll p (heardOf s.port.framing s.port.reply) = .clean x := by
      rw [framing, heard, heardOf_answer]
      exact if_pos begins
    refine ⟨fun n st here serial staying alone room more => ?_,
      fun unheld unlisted => ⟨fun room places more => ?_, fun full places apart => ?_, fun listFull more => ?_⟩⟩
    · refine reply phase clean ?_
      rw [State.rollClass, cleanSerial_of_record (s := s.quieted) free here serial alone staying room]
      exact endIfDone_of_stack more
    all_goals
      refine reply phase clean ?_
      rw [State.rollClass, cleanSerial_of_stranger (s := s.quieted) unheld unlisted free]
    · rw [if_pos (show s.quieted.engine.strays.length < 8 from places),
        if_pos (show s.quieted.engine.errands.length < 4 from room)]
      exact endIfDone_of_stack more
    · rw [if_pos (show s.quieted.engine.strays.length < 8 from places),
        if_neg (show ¬ s.quieted.engine.errands.length < 4 from Nat.not_lt.mpr full),
        pushPrefixes_of_free (s := s.quieted) _ apart]
      exact endIfDone_of_stack (List.cons_ne_nil _ _)
    · rw [if_neg (show ¬ s.quieted.engine.strays.length < 8 from Nat.not_lt.mpr listFull)]
      exact endIfDone_of_stack more

end Sys2Proof.Machine

/-! ## Proofs: the commands and rows of the line engine (08_line_engine_and_enrollment.md 8.3, 8.6, 8.7) -/

namespace Sys2Proof.Machine

section

variable {s : State}

/-! ### LINE START, HOLD and RESUME (R136, R137) -/

/-- R136: without a restart pending there is nothing to begin again. -/
theorem restart_of_none {e : Engine} (unmarked : ∀ k, e.enrolment ≠ .active k true) : e.restart = e := by
  unfold Engine.restart
  split
  · next k marked => exact absurd marked (unmarked k)
  · rfl
  · rfl

theorem engineCommand_of_some {f : Engine → Option Engine × Result} {e : Engine} {r : Result} (moves : f s.engine = (some e, r)) :
    engineCommand f s = (State.settle s { s with engine := e }, .plain r) := by
  rw [engineCommand, moves]
  rfl

theorem engineCommand_of_none {f : Engine → Option Engine × Result} {r : Result} (stands : f s.engine = (none, r)) :
    engineCommand f s = (s, .plain r) := by
  rw [engineCommand, stands]

end

/-- Settles O35. -/
theorem lineCommandsMoveTheEngineState : Obligations.LineCommandsMoveTheEngineState := by
  intro s taken unmarked
  have moves : ∀ {i code f e r}, exec i s = command code promptBound (engineCommand f) s → f s.engine = (some e, r) →
      exec i s = .next (State.answer code 100 (.plain r) (State.settle s { s with engine := e })) := fun row moved => by
    rw [exec_of_command taken row, engineCommand_of_some moved]
    rfl
  have stands : ∀ {i code f r}, exec i s = command code promptBound (engineCommand f) s → f s.engine = (none, r) →
      exec i s = .next (State.answer code 100 (.plain r) s) := fun row still => by
    rw [exec_of_command taken row, engineCommand_of_none still]
    rfl
  refine ⟨fun state => ⟨moves rfl ?_, stands rfl ?_, stands rfl ?_⟩, fun state => ⟨stands rfl ?_, moves rfl ?_, stands rfl ?_⟩,
    fun state => ⟨stands rfl ?_, stands rfl ?_, moves rfl ?_⟩⟩
  · rw [Engine.start, state, restart_of_none unmarked]
  · rw [Engine.holdLine, state]
  · rw [Engine.resume, state]
  · rw [Engine.start, state]
  · rw [Engine.holdLine, state]
  · rw [Engine.resume, state]
  · rw [Engine.start, state]
  · rw [Engine.holdLine, state]
  · rw [Engine.resume, state]

section

variable {s : State}

/-! ### The completion of a stop (R138) -/

/-- No record has a mute errand. -/
def State.mutesIdle (s : State) : Prop := ∀ n st, s.station n = some st → st.mute = .idle

theorem unqueueMutes_of_idle (idle : s.mutesIdle) : s.unqueueMutes = s := by
  refine List.foldl_fixed' (fun n => ?_) slots
  split
  · next st here => exact if_neg fun queued => MuteErrand.noConfusion ((idle n st here).symm.trans queued.1)
  · rfl

theorem placeAllWanted_of_idle (idle : s.mutesIdle) : s.placeAllWanted = s := by
  refine List.foldl_fixed' (fun n => ?_) slots
  split
  · next st here => exact if_neg fun wanted => MuteErrand.noConfusion ((idle n st here).symm.trans wanted)
  · rfl

/-- R138: with no mute errand, a stop empties the engine alone. -/
theorem completeStop_of_idle (idle : s.mutesIdle) : s.completeStop = s.withEngine Engine.afterStop := by
  rw [completeStop_eq, unqueueMutes_of_idle idle]
  exact placeAllWanted_of_idle (s := s.withEngine Engine.afterStop) idle

/-- R138 step 2: the enrollment and the stack that a stop leaves. -/
theorem afterStop_eq (e : Engine) : e.afterStop = { e with
    cursor := 0, lastRoll := false, sheds := [], hold := [], stopping := false
    errands := e.errands.filter Errand.kept
    enrolment := match e.enrolment, e.state with
      | .active k _, .running => .active k false
      | .active k _, _ => .active k true
      | .inactive, _ => .inactive
    stack := match e.enrolment, e.state with
      | .active _ _, .running => [.empty]
      | .active _ _, _ => []
      | .inactive, _ => [] } := by
  obtain ⟨state, fresh, stopping, sheds, errands, hold, cursor, lastRoll, enrolment⟩ := e
  cases enrolment with
  | inactive => rfl
  | active k r => cases state <;> rfl

end

/-- Settles O36. -/
theorem lineStopEmptiesTheQueues : Obligations.LineStopEmptiesTheQueues := by
  intro s awake idle
  have row : s.host.refuses = false → s.engine.state ≠ .stopped →
      exec .lineStop s = .next (State.answer 0x54 100 (.plain .done) (State.settle s s.stopLine)) := fun taken live => by
    rw [exec_of_command (i := .lineStop) ⟨awake, taken⟩ (show exec _ s = execLineStop s from rfl), if_neg live]
    rfl
  refine ⟨fun taken live phase => ?_, fun taken live phase => ?_, fun stopping phase => ?_, fun stopping phase fresh => ?_⟩
  · rw [row taken live, State.stopLine, if_pos phase,
      completeStop_of_idle (s := s.withEngine fun e => { e with state := .stopped }) idle]
    exact congrArg (fun e => Host.Outcome.next (State.answer 0x54 100 (.plain .done) (State.settle s { s with engine := e })))
      (afterStop_eq { s.engine with state := .stopped })
  · rw [row taken live, State.stopLine, if_neg phase]
    rfl
  · refine (live_of_awake _ s awake).trans ?_
    rw [settled, if_pos ⟨stopping, phase⟩, completeStop_of_idle idle]
    exact congrArg (fun e => Host.Outcome.next (State.settle s { s with engine := e })) (afterStop_eq s.engine)
  · refine (expiry_of_fresh .turnEnd (settled State.turnOver) s awake fresh).trans ?_
    rw [settled, turnOver_of_quiet phase, if_pos stopping, completeStop_of_idle (s := { s with port := LinePort.atReset }) idle]
    exact congrArg (fun e => Host.Outcome.next (State.settle s { s with port := LinePort.atReset, engine := e }))
      (afterStop_eq s.engine)

section

variable {s : State} {x : Serial} {n : Slot} {st : Station}

/-! ### Enrollments and strays (R143, R146, R150, R151, R153) -/

theorem lastTry_of_head {e : Engine} {o : Origin} {rest : List Errand} (queue : e.errands = .assign x n o 2 :: rest) :
    e.lastTry x = some n := by
  rw [Engine.lastTry, queue, List.findSome?_cons]
  dsimp only
  rw [if_pos ⟨rfl, Nat.le_refl 2⟩]

/-- R151: a record that has been Silent for 600 s. -/
theorem longSilent_of {t : Nat} (here : s.station n = some st) (line : st.life = .enrolled ∨ st.life = .retiring)
    (silent : st.silence = some t) (long : 600000000 ≤ t) : s.longSilent = true := by
  refine List.any_eq_true.mpr ⟨n, List.mem_finRange n, ?_⟩
  rw [here]
  exact Bool.and_eq_true_iff.mpr ⟨(onLine_iff st).mpr line, decide_eq_true ⟨t, silent, long⟩⟩

theorem stopEnrol_of_active {e : Engine} {k : EnrolKind} {r : Bool} (active : e.enrolment = .active k r) : e.stopEnrol = { e with
    enrolment := .inactive
    stack := []
    lastReport := some ⟨k, .stopped, e.counts⟩
    rejoin := if k = .automatic then some 60000000 else e.rejoin } := by
  rw [Engine.stopEnrol, active]
  cases k <;> rfl

end

/-- Settles O38. -/
theorem enrollmentRowsAndStrays : Obligations.EnrollmentRowsAndStrays := by
  intro s awake
  refine ⟨fun x n o rest queue once none => ?abandoned, fun taken inactive => ?start, fun k r taken active => ?stop,
    fun n st t running inactive rested here line silent long => ?automatic, fun fresh => ?rejoin,
    fun x taken => ⟨fun listed => ?drop, fun unlisted => ?keep⟩⟩
  case abandoned =>
    refine (live_of_awake _ s awake).trans ?_
    rw [settled, State.abandonSerial, lastTry_of_head queue]
    exact congrArg (fun u => Host.Outcome.next (State.settle s u)) (abandon_of_head queue once none)
  case start =>
    rw [exec_of_command (i := .enrolStart) ⟨awake, taken⟩ (show exec _ s = execEnrolStart s from rfl), inactive]
    rfl
  case stop =>
    rw [exec_of_command (i := .enrolStop) ⟨awake, taken⟩ (show exec _ s = execEnrolStop s from rfl), active]
    exact congrArg (fun e => Host.Outcome.next (State.answer 0x56 100 (.plain .done) (State.settle s { s with engine := e })))
      (stopEnrol_of_active active)
  case automatic =>
    refine (live_of_awake _ s awake).trans ?_
    rw [settled, State.autoEnrol, if_pos ⟨running, inactive, rested, longSilent_of here line silent long⟩]
    rfl
  case rejoin =>
    exact expiry_of_fresh .rejoinIntervalExpiry _ s awake fresh
  case drop =>
    rw [exec_of_command (i := .strayDrop x) ⟨awake, taken⟩ (show exec _ s = execStrayDrop x s from rfl),
      if_pos (List.contains_iff_mem.mpr listed)]
    rfl
  case keep =>
    rw [exec_of_command (i := .strayDrop x) ⟨awake, taken⟩ (show exec _ s = execStrayDrop x s from rfl),
      if_neg fun h => unlisted (List.contains_iff_mem.mp h)]
    rfl

end Sys2Proof.Machine

/-! ## Proofs: the choice of a turn (08_line_engine_and_enrollment.md 8.5) -/

namespace Sys2Proof.Machine

section

variable {s : State} {n : Slot} {st : Station} {sv : Service} {x : Serial} {o : Origin} {a : Nat} {rest : List Errand}

/-! ### Items 1 and 2: sheds and errands (R141 to R143) -/

theorem chooseShed_cons {e : ShedEntry} {later : List ShedEntry} (queue : s.engine.sheds = e :: later) : s.chooseShed =
    some (State.hand false (.shed e.cls e.amount) { s with engine := { s.engine with sheds := later } }) := by
  rw [State.chooseShed, queue]

theorem chooseShed_nil (queue : s.engine.sheds = []) : s.chooseShed = none := by rw [State.chooseShed, queue]

section

variable (phase : s.port.phase = .idle) (stopping : s.engine.stopping = false)

include phase stopping

theorem chooseTurn_of_stopped (state : s.engine.state = .stopped) : s.chooseTurn = s := by
  rw [State.chooseTurn, if_pos ⟨phase, stopping⟩, state]

theorem chooseTurn_of_held (state : s.engine.state = .held) : s.chooseTurn = s.chooseShed.getD s := by
  rw [State.chooseTurn, if_pos ⟨phase, stopping⟩, state]

theorem chooseTurn_of_fresh (state : s.engine.state = .running) (fresh : s.engine.fresh = true) :
    s.chooseTurn = s.hand false .lineClear := by
  rw [State.chooseTurn, if_pos ⟨phase, stopping⟩, state]
  exact if_pos fresh

theorem chooseTurn_of_running (state : s.engine.state = .running) (fresh : s.engine.fresh = false) :
    s.chooseTurn = match s.chooseShed with | some t => t | none => s.chooseErrand := by
  rw [State.chooseTurn, if_pos ⟨phase, stopping⟩, state]
  exact if_neg (by rw [fresh]; exact Bool.false_ne_true)

theorem chooseTurn_of_noShed (state : s.engine.state = .running) (fresh : s.engine.fresh = false)
    (queue : s.engine.sheds = []) : s.chooseTurn = s.chooseErrand := by
  rw [chooseTurn_of_running phase stopping state fresh, chooseShed_nil queue]

end

/-- R143: the head of the queue is an ASSIGN whose record stands. -/
theorem chooseErrand_of_assign (queue : s.engine.errands = .assign x n o a :: rest) (here : s.station n = some st)
    (serial : st.serial = x) : s.chooseErrand = s.hand false (.assign x n) := by
  have valid : s.assignValid x n = true := by
    rw [State.assignValid, here]
    exact decide_eq_true serial
  have kept : s.dropStale s.engine.errands.length = s := by
    rw [queue, List.length_cons, State.dropStale, queue]
    exact if_pos valid
  rw [State.chooseErrand, kept]
  dsimp only
  rw [queue]

/-- R143: a MUTE at the head leaves the queue. -/
theorem chooseErrand_of_mute (queue : s.engine.errands = .mute x :: rest)
    (none : ∀ m su, s.station m = some su → su.mute ≠ .wanted) :
    s.chooseErrand = State.hand false (.mute x) { s with engine := { s.engine with errands := rest } } := by
  have kept : s.dropStale s.engine.errands.length = s := by
    rw [queue, List.length_cons, State.dropStale, queue]
  rw [State.chooseErrand, kept]
  dsimp only
  rw [queue]
  exact placeFreed_of_none (s := State.hand false (.mute x) { s with engine := { s.engine with errands := rest } }) none

/-- R143: an ASSIGN at the head whose record is gone is discarded. -/
theorem chooseErrand_of_stale (queue : s.engine.errands = .assign x n o a :: rest)
    (gone : ∀ st, s.station n = some st → st.serial ≠ x) (none : ∀ m su, s.station m = some su → su.mute ≠ .wanted) :
    s.chooseErrand = State.chooseErrand { s with engine := { s.engine with errands := rest } } := by
  have stale : s.assignValid x n = false := by
    unfold State.assignValid
    split
    · next st here => exact decide_eq_false (gone st here)
    · rfl
  have dropped : s.dropStale s.engine.errands.length =
      State.dropStale rest.length { s with engine := { s.engine with errands := rest } } := by
    rw [queue, List.length_cons, State.dropStale, queue]
    dsimp only
    rw [if_neg (by rw [stale]; exact Bool.false_ne_true),
      placeFreed_of_none (s := { s with engine := { s.engine with errands := rest } }) none]
  rw [State.chooseErrand, dropped]
  rfl

theorem chooseErrand_of_nil (queue : s.engine.errands = []) : s.chooseErrand = s.choosePush := by
  have kept : s.dropStale s.engine.errands.length = s := by rw [queue]; rfl
  rw [State.chooseErrand, kept]
  dsimp only
  rw [queue]

/-! ### Items 3 to 5: pushes, roll steps and polls (R144, R145, R147) -/

theorem pushScan_of_lowering (push : s.pushable n = true) (lowers : s.lowering n = true)
    (lowest : ∀ m, m < n → s.pushable m = false ∨ s.lowering m = false) : s.pushScan = some n := by
  have found : slots.find? (fun n => s.pushable n && s.lowering n) = some n :=
    (slots_find_iff _ n).mpr ⟨by rw [push, lowers]; rfl, fun m below => Bool.and_eq_false_iff.mpr (lowest m below)⟩
  rw [State.pushScan, found]

theorem pushScan_of_raising (push : s.pushable n = true) (raises : ∀ m, s.pushable m = true → s.lowering m = false)
    (lowest : ∀ m, m < n → s.pushable m = false) : s.pushScan = some n := by
  have noLowering : slots.find? (fun n => s.pushable n && s.lowering n) = none := List.find?_eq_none.mpr fun m _ both => by
    obtain ⟨push, lowers⟩ := Bool.and_eq_true_iff.mp both
    rw [raises m push] at lowers
    cases lowers
  rw [State.pushScan, noLowering]
  exact (slots_find_iff _ n).mpr ⟨push, lowest⟩

theorem pushScan_of_none (nowhere : ∀ m, s.pushable m = false) : s.pushScan = none := by
  have noLowering : slots.find? (fun n => s.pushable n && s.lowering n) = none :=
    List.find?_eq_none.mpr fun m _ both => by
      rw [nowhere m] at both
      cases both
  rw [State.pushScan, noLowering]
  exact List.find?_eq_none.mpr fun m _ push => by
    rw [nowhere m] at push
    cases push

theorem choosePush_of_some (scan : s.pushScan = some n) (here : s.station n = some st) (service : st.service = some sv) :
    s.choosePush = s.hand false (.order n (st.target sv)) := by
  have target : s.targetAt n = some (st.target sv) := by
    rw [State.targetAt, here]
    dsimp only
    rw [service]
    rfl
  rw [State.choosePush, scan]
  dsimp only
  rw [target]

theorem choosePush_of_none (nowhere : ∀ m, s.pushable m = false) : s.choosePush = s.chooseRollOrPoll := by
  rw [State.choosePush, pushScan_of_none nowhere]

theorem chooseRollOrPoll_of_roll {p : Prefix} {later : List Prefix} (ready : s.rollReady = true)
    (stack : s.engine.stack = p :: later) :
    s.chooseRollOrPoll = State.hand true (.roll p) { s with engine := { s.engine with stack := later } } := by
  rw [State.chooseRollOrPoll, ready, stack]

/-- R141 item 5: without a roll step, the record from the cursor on is polled. -/
theorem chooseRollOrPoll_of_poll (unready : s.rollReady = false ∨ s.engine.stack = []) (next : s.pollNext = some n) :
    s.chooseRollOrPoll = State.hand false (.query n) { s with engine := { s.engine with cursor := n + 1 } } := by
  rw [State.chooseRollOrPoll, next]
  rcases unready with unready | empty
  · rw [unready]
  · rw [empty]
    cases s.rollReady <;> rfl

theorem chooseRollOrPoll_of_nobody (unready : s.rollReady = false ∨ s.engine.stack = []) (nobody : s.pollNext = none) :
    s.chooseRollOrPoll = s := by
  rw [State.chooseRollOrPoll, nobody]
  rcases unready with unready | empty
  · rw [unready]
  · rw [empty]
    cases s.rollReady <;> rfl

theorem rollReady_of_steps (steps : s.engine.enrolment.steps = true) (room : s.engine.errands = [])
    (turn : s.engine.lastRoll = false ∨ s.pollNext = none) : s.rollReady = true := by
  have place : s.engine.errandRoom = true := by rw [Engine.errandRoom, room]; rfl
  rw [State.rollReady, steps, place]
  rcases turn with last | poll
  · rw [last]; rfl
  · rw [poll, Option.isNone_none, Bool.or_true]; rfl

theorem unready_of_steps (idle : s.engine.enrolment.steps = false) : s.rollReady = false := by
  rw [State.rollReady, idle]
  rfl

theorem unready_of_lastRoll (last : s.engine.lastRoll = true) (poll : s.pollNext = some n) : s.rollReady = false := by
  rw [State.rollReady, last, poll]
  exact Bool.and_false _

end

/-- Settles O37. -/
theorem turnChoiceFollowsItsOrder : Obligations.TurnChoiceFollowsItsOrder := by
  intro s awake phase stopping
  have row : ∀ {u}, s.chooseTurn = u → exec .turnChoice s = .next u := fun chosen => by
    rw [show exec .turnChoice s = _ from live_of_awake State.chooseTurn s awake, chosen]
  refine ⟨fun state => row (chooseTurn_of_stopped phase stopping state),
    fun state fresh => row (chooseTurn_of_fresh phase stopping state fresh), fun e rest ready queue => row ?shed,
    fun state queue => row ?held, fun state fresh sheds => ?running⟩
  case shed =>
    rcases ready with held | ⟨running, fresh⟩
    · rw [chooseTurn_of_held phase stopping held, chooseShed_cons queue]
      rfl
    · rw [chooseTurn_of_running phase stopping running fresh, chooseShed_cons queue]
      rfl
  case held =>
    rw [chooseTurn_of_held phase stopping state, chooseShed_nil queue]
    rfl
  case running =>
    have errand : s.chooseTurn = s.chooseErrand := chooseTurn_of_noShed phase stopping state fresh sheds
    refine ⟨fun x n o a rest st queue here serial => row (errand.trans (chooseErrand_of_assign queue here serial)),
      fun x rest queue none => row (errand.trans (chooseErrand_of_mute queue none)),
      fun x n o a rest queue gone none => ?stale, fun queue => ?pushes⟩
    case stale =>
      rw [row (errand.trans (chooseErrand_of_stale queue gone none)),
        show exec .turnChoice { s with engine := { s.engine with errands := rest } } = _ from
          live_of_awake State.chooseTurn _ awake,
        chooseTurn_of_noShed (s := { s with engine := { s.engine with errands := rest } }) phase stopping state fresh sheds]
    case pushes =>
      have push : s.chooseTurn = s.choosePush := errand.trans (chooseErrand_of_nil queue)
      refine ⟨fun n st sv here service able lowers lowest =>
          row (push.trans (choosePush_of_some (pushScan_of_lowering able lowers lowest) here service)),
        fun n st sv here service able raises lowest =>
          row (push.trans (choosePush_of_some (pushScan_of_raising able raises lowest) here service)),
        fun none => ?polls⟩
      have poll : s.chooseTurn = s.chooseRollOrPoll := push.trans (choosePush_of_none none)
      refine ⟨fun p rest k active stack turn => row (poll.trans (chooseRollOrPoll_of_roll ?_ stack)),
        fun n unready next => row (poll.trans ?_), fun unready nobody => row (poll.trans ?_)⟩
      · exact rollReady_of_steps (by rw [active]; rfl) queue turn
      · refine chooseRollOrPoll_of_poll ?_ next
        rcases unready with idle | empty | last
        · exact .inl (unready_of_steps idle)
        · exact .inr empty
        · exact .inl (unready_of_lastRoll last next)
      · exact chooseRollOrPoll_of_nobody (unready.imp_left unready_of_steps) nobody

end Sys2Proof.Machine

/-! ## Proofs: the saw permit unit (09_sawmill_drive_permit.md) -/

namespace Sys2Proof.Machine

section

variable {s : State} {w : Saw}

/-! ### The debouncer and the clutch edges (R157, R159, R162 to R164) -/

/-- R157: a running debounce timer that runs out takes the edge of the raw level. -/
theorem debounceOver_of_edge {t : Nat} (timer : s.saw.debounce = some t) (edge : s.saw.raw ≠ s.saw.clutch) :
    s.debounceOver = if s.saw.raw then State.engageEdge { s with saw := { s.saw with debounce := none } }
      else State.disengageEdge { s with saw := { s.saw with debounce := none } } := by
  rw [State.debounceOver, timer]
  exact if_neg edge

theorem debounceOver_engage {t : Nat} (timer : s.saw.debounce = some t) (raw : s.saw.raw = true) (free : s.saw.clutch = false) :
    s.debounceOver = State.engageEdge { s with saw := { s.saw with debounce := none } } :=
  (debounceOver_of_edge timer (by rw [raw, free]; exact Bool.noConfusion)).trans (if_pos raw)

theorem debounceOver_disengage {t : Nat} (timer : s.saw.debounce = some t) (raw : s.saw.raw = false)
    (held : s.saw.clutch = true) : s.debounceOver = State.disengageEdge { s with saw := { s.saw with debounce := none } } :=
  (debounceOver_of_edge timer (by rw [raw, held]; exact Bool.noConfusion)).trans (if_neg (by rw [raw]; exact Bool.false_ne_true))

/-- R162: the saw engages under its permit. -/
theorem engageEdge_of_released (state : s.saw.state = .released) : s.engageEdge = { s with
    saw := { s.saw with clutch := true, state := .cutting, idle := none, engaged := s.saw.reserved }
    gov := { s.gov with ff := max (-16000) (min 16000 (s.gov.ff - (s.saw.reserved : Int))) } } := by
  rw [State.engageEdge]
  dsimp only
  rw [state]
  rfl

/-- R164: with neither a request nor a reservation the nominal draw is reserved. -/
theorem unreleased_of_idle (held : s.saw.clutch = true) (draw : s.saw.draw = none) (reserved : s.saw.reserved = 0) :
    s.unreleased = { s with
      saw := { s.saw with
        state := .closing, waiting := none, preparing := none, idle := none, stuck := some 3000000,
        reserved := s.saw.nominal, engaged := s.saw.nominal, lastEvent := some .unreleased }
      gov := { s.gov with ff := max (-16000) (min 16000 (s.gov.ff - (s.saw.nominal : Int))) }
      attn := s.attn ||| 0x2000 } := by
  have share : s.saw.unreleasedDraw = s.saw.nominal := by simp [Saw.unreleasedDraw, draw, reserved]
  rw [State.unreleased, share]
  dsimp only
  rw [Saw.toClosing, if_pos held]
  rfl

/-- R164: an engagement in Idle was not released. -/
theorem engageEdge_of_idle (state : s.saw.state = .idle) :
    s.engageEdge = State.unreleased { s with saw := { s.saw with clutch := true } } := by
  rw [State.engageEdge]
  dsimp only
  rw [state]

/-- R159, R162: a disengagement in Cutting. -/
theorem disengageEdge_of_cutting (state : s.saw.state = .cutting) : s.disengageEdge = { s with
    saw := { s.saw with clutch := false, state := .released, idle := some 600000000, engaged := 0 }
    gov := { s.gov with ff := max (-16000) (min 16000 (s.gov.ff + (s.saw.engaged : Int))) } } := by
  rw [State.disengageEdge]
  dsimp only [State.giveBack, State.postFeed]
  rw [state]
  rfl

theorem disengageEdge_of_closing (state : s.saw.state = .closing) : s.disengageEdge = { s with
    saw := Saw.toIdle { s.saw with clutch := false, engaged := 0 }
    gov := { s.gov with ff := max (-16000) (min 16000 (s.gov.ff + (s.saw.engaged : Int))) } } := by
  rw [State.disengageEdge]
  dsimp only [State.giveBack, State.postFeed]
  rw [state]
  rfl

/-- R163: the clutch of a Fault is freed. -/
theorem disengageEdge_of_fault (state : s.saw.state = .fault) : s.disengageEdge = { s with
    saw := { Saw.toIdle { s.saw with clutch := false, engaged := 0 } with lastEvent := some .clutchFreed }
    gov := { s.gov with ff := max (-16000) (min 16000 (s.gov.ff + (s.saw.engaged : Int))) }
    attn := s.attn ||| 0x2000 } := by
  rw [State.disengageEdge]
  dsimp only [State.giveBack, State.postFeed]
  rw [state]
  rfl

end

/-- Settles O39. -/
theorem clutchEdgesPostFeedForward : Obligations.ClutchEdgesPostFeedForward := by
  intro s awake
  refine ⟨fun level new => ?change, ?same, fun fresh => ?edges⟩
  case change =>
    refine (live_of_awake (fun s => { s with saw := s.saw.setRaw level }) s awake).trans ?_
    rw [Saw.setRaw, if_neg fun same => new same.symm]
    rfl
  case same =>
    refine (live_of_awake (fun t => { t with saw := t.saw.setRaw s.saw.raw }) s awake).trans ?_
    rw [Saw.setRaw, if_pos rfl]
  case edges =>
    have row : ∀ {u}, s.debounceOver = u → exec .debounceTimerExpiry s = .next (State.settle s u) := fun taken =>
      (expiry_of_fresh .debounceTimerExpiry (settled State.debounceOver) s awake fresh).trans (by rw [settled, taken])
    refine ⟨fun t timer raw free state => row ((debounceOver_engage timer raw free).trans (engageEdge_of_released state)),
      fun t timer raw held state => row ((debounceOver_disengage timer raw held).trans (disengageEdge_of_cutting state)),
      fun t timer raw held =>
        ⟨fun state => row ((debounceOver_disengage timer raw held).trans (disengageEdge_of_closing state)),
          fun state => row ((debounceOver_disengage timer raw held).trans (disengageEdge_of_fault state))⟩,
      fun t timer raw free state draw reserved =>
        row (((debounceOver_engage timer raw free).trans (engageEdge_of_idle state)).trans
          (unreleased_of_idle rfl draw reserved))⟩

section

variable {s : State} {w : Saw}

/-! ### The permit's end (R163, R166) -/

theorem toClosing_of_engaged (held : w.clutch = true) : w.toClosing =
    { w with state := .closing, waiting := none, preparing := none, idle := none, stuck := some 3000000 } := if_pos held

theorem toClosing_of_free (free : w.clutch = false) : w.toClosing = w.toIdle :=
  if_neg (by rw [free]; exact Bool.false_ne_true)

theorem hasPermit_iff : w.hasPermit = true ↔
    w.state = .waiting ∨ w.state = .preparing ∨ w.state = .released ∨ w.state = .cutting := by
  unfold Saw.hasPermit
  cases w.state <;> simp

theorem withdraw_of_asking (state : w.state = .waiting ∨ w.state = .preparing) : w.withdraw = w.toIdle := by
  rcases state with state | state <;> rw [Saw.withdraw, state]

theorem withdraw_of_running (state : w.state = .released ∨ w.state = .cutting) : w.withdraw = w.toClosing := by
  rcases state with state | state <;> rw [Saw.withdraw, state]

/-! ### SAW REQUEST (R160) -/

theorem sawRequest_of_admission {d : Nat} (least : 100 ≤ d) (most : d ≤ 4000) (idle : s.saw.state = .idle) : s.sawRequest d =
    match s.admission d with
    | .granted => (State.settle s { s with saw := s.saw.grant d }, .plain .done)
    | .refused => ({ s with saw := s.saw.wait d }, .plain .started)
    | .noplan => (s, .plain .noplan) := by
  rw [State.sawRequest, if_neg (by omega), if_neg (not_not_intro idle)]
  rfl

end

/-- Settles O40. -/
theorem sawPermitIsAskedTimedAndEnded : Obligations.SawPermitIsAskedTimedAndEnded := by
  intro s awake
  refine ⟨fun taken draw => ?request, fun state fresh => ?waiting, fun state fresh => ?preparing,
    fun state free fresh => ?idle, fun state fresh => ?stuck, fun taken => ⟨fun state => ?asking, fun state free => ?released,
      fun state held => ?cutting, fun state => ?nothing, fun d c least most low high => ?set⟩⟩
  case request =>
    have row : exec (.sawRequest draw) s =
        .next (State.answer 0x61 100 (s.sawRequest draw.toNat).2 (s.sawRequest draw.toNat).1) :=
      exec_of_command (i := .sawRequest draw) ⟨awake, taken⟩ (show exec _ s = execSawRequest draw s from rfl)
    refine ⟨fun outside => ?_, fun least most busy => ?_,
      fun least most state => ⟨fun granted => ?_, fun refused => ?_, fun noplan => ?_⟩⟩
    · rw [row, State.sawRequest, if_pos outside]
    · rw [row, State.sawRequest, if_neg (by omega), if_pos busy]
    · rw [row, sawRequest_of_admission least most state, granted]
      rfl
    · rw [row, sawRequest_of_admission least most state, refused]
      rfl
    · rw [row, sawRequest_of_admission least most state, noplan]
  case waiting =>
    refine (expiry_of_fresh .waitingTimerExpiry (settled State.waitingOver) s awake fresh).trans ?_
    rw [settled, State.waitingOver, if_pos state]
    rfl
  case preparing =>
    refine (expiry_of_fresh .preparingTimerExpiry (settled State.preparingOver) s awake fresh).trans ?_
    rw [settled, State.preparingOver, if_pos state]
    rfl
  case idle =>
    refine (expiry_of_fresh .idleTimerExpiry (settled State.idleOver) s awake fresh).trans ?_
    rw [settled, State.idleOver, if_pos state, toClosing_of_free free]
    rfl
  case stuck =>
    refine (expiry_of_fresh .stuckTimerExpiry State.stuckOver s awake fresh).trans ?_
    rw [State.stuckOver, if_pos state]
    rfl
  case set =>
    rw [exec_of_command (i := .sawSet d c) ⟨awake, taken⟩ (show exec _ s = execSawSet d c s from rfl), if_neg (by omega)]
    rfl
  all_goals
    have row : exec .sawStop s = .next (State.answer 0x62 100 (.plain .done)
        (if s.saw.hasPermit then State.settle s { s with saw := s.saw.withdraw } else s)) :=
      exec_of_command (i := .sawStop) ⟨awake, taken⟩ (show exec _ s = execSawStop s from rfl)
    rw [row]
  case asking =>
    rw [if_pos (hasPermit_iff.mpr (by tauto)), withdraw_of_asking state]
    rfl
  case released =>
    rw [if_pos (hasPermit_iff.mpr (by tauto)), withdraw_of_running (.inl state), toClosing_of_free free]
    rfl
  case cutting =>
    rw [if_pos (hasPermit_iff.mpr (by tauto)), withdraw_of_running (.inr state), toClosing_of_engaged held]
  case nothing =>
    rw [if_neg]
    rw [hasPermit_iff]
    rcases state with state | state | state <;> simp [state]

end Sys2Proof.Machine

/-! ## Proofs: the four receivers of a completion, and the trip (10_frequency_protection_and_load_shedding.md 10.4) -/

namespace Sys2Proof.Machine

/-! ### The receivers in any order (R9) -/

/-- R9: what each of the four receivers hands to those that are still to take the completion holds in the end, whatever their
order. -/
theorem offer_induction {P : List Receiver → State → Prop} {order : List Receiver} {sense : BitVec 8} {c : Completion} {s : State}
    (perm : order.Perm receivers) (start : P order s)
    (step : ∀ r rest t, r ∉ rest → P (r :: rest) t → P rest (t.take s.gov.outputs sense c r)) :
    P [] (State.offer order sense c s) := by
  have once : order.Nodup := perm.nodup_iff.mpr (by decide)
  clear perm
  unfold State.offer
  generalize s.gov.outputs = prev at step ⊢
  induction order generalizing s with
  | nil => exact start
  | cons r rest ih =>
    obtain ⟨fresh, later⟩ := List.nodup_cons.mp once
    exact ih (step r rest s fresh start) later

theorem mem_order {order : List Receiver} (perm : order.Perm receivers) (r : Receiver) : r ∈ order :=
  perm.mem_iff.mpr (by cases r <;> decide)

section

variable {s : State} {c : Completion}

/-! ### What each receiver leaves (R15, R49, R161) -/

theorem raiseAll_eq (l : List Attn) (s : State) : ∃ a, s.raiseAll l = { s with attn := a } ∧ ∀ m, s.attn ||| m = s.attn → a ||| m = a := by
  refine List.foldlRecOn (motive := fun t => ∃ a, t = { s with attn := a } ∧ ∀ m, s.attn ||| m = s.attn → a ||| m = a) l _
    ⟨s.attn, rfl, fun _ h => h⟩ ?_
  rintro t ⟨a, rfl, kept⟩ b -
  refine ⟨a ||| b.bit, rfl, fun m h => ?_⟩
  rw [BitVec.or_assoc, BitVec.or_comm b.bit, ← BitVec.or_assoc, kept m h]

/-- R15: the governor changes itself and raises flags. -/
theorem governorTake_eq (prev : Vector Bool 8) (sense : BitVec 8) (c : Completion) (s : State) :
    ∃ a, s.governorTake prev sense c = { s with gov := (s.gov.take s.prot.trip s.fset prev sense c).1, attn := a } ∧
      ∀ m, s.attn ||| m = s.attn → a ||| m = a :=
  raiseAll_eq _ _

/-- R49: in a trip there is no trim decision. -/
theorem positionerTake_of_trip (trip : s.prot.trip = true) :
    ∃ n, s.positionerTake = { s with gate := { s.gate with trim := n } } := by
  unfold State.positionerTake
  split
  · exact ⟨0, by rw [State.trimDecision, if_pos (by rw [trip]; rfl)]⟩
  · exact ⟨_, rfl⟩

/-! ### Full ballast (R17, R18) -/

/-- R17: full ballast on exactly the Ready banks, with nothing to feed forward. -/
def Governor.full (g : Governor) : Prop :=
  g.bFine = 1024 * g.bCap ∧ g.b = g.bCap ∧ g.ff = 0 ∧ ∀ k : BankNo, (g.banks[k].on = true ↔ g.banks[k].state = .ready)

theorem fullBallast_full (g : Governor) : g.fullBallast.full := by
  have bank : ∀ k : BankNo, g.fullBallast.banks[k] = { g.banks[k] with on := g.banks[k].isReady } := fun k => by
    simp [Governor.fullBallast]
  have bCap : g.fullBallast.bCap = g.bCap :=
    congrArg List.sum (readyRatings_congr fun k => by rw [bank]; exact ⟨rfl, fun _ => rfl⟩)
  refine ⟨by rw [bCap]; rfl, by rw [bCap]; rfl, rfl, fun k => ?_⟩
  rw [bank]
  exact Bank.isReady_iff _

theorem tripOnset_full (g : Governor) : g.tripOnset.1.full ∧ g.tripOnset.1.check = none := by
  unfold Governor.tripOnset
  split
  · exact ⟨fullBallast_full _, rfl⟩
  · next idle => exact ⟨fullBallast_full _, idle⟩

/-- R17: a completion of a trip sets full ballast, and keeps S, e_prev and the check. -/
theorem take_of_trip (fset : Int) (prev : Vector Bool 8) (sense : BitVec 8) (c : Completion) (g : Governor) :
    let h := (g.take true fset prev sense c).1
    h.full ∧ h.s = g.s ∧ h.ePrev = g.ePrev ∧ h.check = g.check := by
  obtain ⟨s, -, ePrev, -⟩ := fields_of_exceptBanks (health_exceptBanks prev sense g)
  exact ⟨fullBallast_full _, s, ePrev, (health_check prev sense g).1⟩

/-! ### Trip onset (R169, R18, R51) -/

/-- What a trip onset leaves, and every receiver after it keeps. -/
structure State.tripped (t : State) : Prop where
  trip : t.prot.trip = true
  uf : t.prot.uf = 0
  full : t.gov.full
  check : t.gov.check = none
  target : t.gate.target = 0
  raised : t.attn ||| Attn.trip.bit = t.attn

theorem settle_trip (good : Bool) (p : Protection) : (p.settle good).trip = p.trip ∧ (p.settle good).uf = p.uf ∧
    (p.settle good).interval = p.interval ∧ (p.settle good).tripOffset = p.tripOffset ∧
    (p.settle good).ufOffset = p.ufOffset ∧ (p.settle good).shedInterval = p.shedInterval := by
  unfold Protection.settle
  split
  · split <;> exact ⟨rfl, rfl, rfl, rfl, rfl, rfl⟩
  · exact ⟨rfl, rfl, rfl, rfl, rfl, rfl⟩

theorem tripOnset_tripped (s : State) : s.tripOnset.tripped := by
  obtain ⟨full, check⟩ := tripOnset_full s.gov
  obtain ⟨a, raised, -⟩ := raiseAll_eq s.gov.tripOnset.2
    { s with prot := { s.prot with trip := true, uf := 0 }, gov := s.gov.tripOnset.1, gate := s.gate.setTarget 0 }
  rw [State.tripOnset, raised]
  exact ⟨rfl, rfl, full, check, setTarget_target 0 s.gate, by
    show a ||| Attn.trip.bit ||| Attn.trip.bit = _
    rw [BitVec.or_assoc, BitVec.or_self]; rfl⟩

theorem protectionTake_of_onset (free : s.prot.trip = false) (above : s.fset + (s.prot.tripOffset : Int) ≤ (c.f : Int)) :
    (s.protectionTake c).tripped := by
  obtain ⟨trip, -, -, offset, -⟩ := settle_trip (decide (s.fset - settledMargin ≤ (c.f : Int))) s.prot
  rw [State.protectionTake, if_pos]
  · exact tripOnset_tripped _
  · rw [State.tripsAt, trip, free, offset]
    exact decide_eq_true above

/-- R171: in a trip the protection unit moves its settled timer alone. -/
theorem protectionTake_of_trip (trip : s.prot.trip = true) :
    s.protectionTake c = { s with prot := s.prot.settle (decide (s.fset - settledMargin ≤ (c.f : Int))) } := by
  have still := (settle_trip (decide (s.fset - settledMargin ≤ (c.f : Int))) s.prot).1.trans trip
  rw [State.protectionTake, if_neg (by rw [State.tripsAt, still]; exact Bool.false_ne_true), countUf_of_trip _ _ still]

theorem tripped_take {t : State} {r : Receiver} (prev : Vector Bool 8) (sense : BitVec 8) (tripped : t.tripped) (other : r ≠ .protection) :
    (t.take prev sense c r).tripped := by
  obtain ⟨trip, uf, full, check, target, raised⟩ := tripped
  cases r with
  | governor =>
    obtain ⟨a, eq, kept⟩ := governorTake_eq prev sense c t
    obtain ⟨ballast, -, -, same⟩ := take_of_trip t.fset prev sense c t.gov
    rw [State.take, eq, trip]
    exact ⟨trip, uf, ballast, same.trans check, target, kept _ raised⟩
  | positioner =>
    obtain ⟨n, eq⟩ := positionerTake_of_trip trip
    rw [State.take, eq]
    exact ⟨trip, uf, full, check, target, raised⟩
  | saw => exact ⟨trip, uf, full, check, target, raised⟩
  | protection => exact absurd rfl other

/-- R37: outside a trip the governor keeps f_set. -/
theorem governorTake_fset {t : State} (prev : Vector Bool 8) (sense : BitVec 8) (free : t.prot.trip = false) :
    (t.governorTake prev sense c).prot = t.prot ∧ (t.governorTake prev sense c).fset = t.fset := by
  obtain ⟨a, eq, -⟩ := governorTake_eq prev sense c t
  have offset := (completionFollowsTheControlLaw t.fset prev sense c t.gov).2.2.2.2.2.2.2.2.1
  rw [eq, free]
  exact ⟨rfl, congrArg (fun o => t.nominal + o) offset⟩

theorem positionerTake_fset (t : State) : t.positionerTake.prot = t.prot ∧ t.positionerTake.fset = t.fset := by
  have blank := positionerTake_exceptGate t
  exact ⟨block_of_blank State.prot State.exceptGate (by rintro ⟨⟩; rfl) blank,
    block_of_blank State.fset State.exceptGate (by rintro ⟨⟩; rfl) blank⟩

/-- R169: before the protection unit has taken the completion no trip is in force, and afterwards one is. -/
def OnsetUnderway (s : State) (rest : List Receiver) (t : State) : Prop :=
  (.protection ∈ rest → t.prot = s.prot ∧ t.fset = s.fset) ∧ (.protection ∉ rest → t.tripped)

theorem onsetUnderway_take {rest : List Receiver} {t : State} {r : Receiver} {prev : Vector Bool 8} {sense : BitVec 8}
    (free : s.prot.trip = false) (above : s.fset + (s.prot.tripOffset : Int) ≤ (c.f : Int)) (once : r ∉ rest)
    (underway : OnsetUnderway s (r :: rest) t) : OnsetUnderway s rest (t.take prev sense c r) := by
  obtain ⟨before, after⟩ := underway
  by_cases own : r = .protection
  · subst own
    obtain ⟨prot, fset⟩ := before List.mem_cons_self
    refine ⟨fun mem => absurd mem once, fun _ => protectionTake_of_onset (prot ▸ free) ?_⟩
    rw [fset, prot]
    exact above
  · refine ⟨fun mem => ?_, fun none => tripped_take prev sense (after fun mem => ?_) own⟩
    · obtain ⟨prot, fset⟩ := before (List.mem_cons_of_mem r mem)
      cases r with
      | governor =>
        obtain ⟨same, still⟩ := governorTake_fset (c := c) prev sense (prot ▸ free)
        exact ⟨same.trans prot, still.trans fset⟩
      | positioner =>
        obtain ⟨same, still⟩ := positionerTake_fset t
        exact ⟨same.trans prot, still.trans fset⟩
      | saw => exact ⟨prot, fset⟩
      | protection => exact absurd rfl own
    · rcases List.mem_cons.mp mem with same | mem
      · exact own same.symm
      · exact none mem

/-! ### Later completions of a trip (R17, R49, R171) -/

/-- What the receivers keep in a trip, and the governor sets. -/
structure TripUnderway (s : State) (rest : List Receiver) (t : State) : Prop where
  trip : t.prot.trip = true
  prot : t.prot.uf = s.prot.uf ∧ t.prot.interval = s.prot.interval
  gate : t.gate.target = s.gate.target ∧ t.gate.drive = s.gate.drive
  gov : t.gov.s = s.gov.s ∧ t.gov.ePrev = s.gov.ePrev
  full : .governor ∉ rest → t.gov.full

theorem tripUnderway_take {rest : List Receiver} {t : State} {r : Receiver} {prev : Vector Bool 8} {sense : BitVec 8}
    (underway : TripUnderway s (r :: rest) t) : TripUnderway s rest (t.take prev sense c r) := by
  obtain ⟨trip, prot, gate, gov, full⟩ := underway
  have later : r ≠ .governor → .governor ∉ rest → t.gov.full := fun other none =>
    full fun mem => (List.mem_cons.mp mem).elim (fun same => other same.symm) none
  cases r with
  | governor =>
    obtain ⟨a, eq, -⟩ := governorTake_eq prev sense c t
    obtain ⟨ballast, s, ePrev, -⟩ := take_of_trip t.fset prev sense c t.gov
    rw [State.take, eq, trip]
    exact ⟨trip, prot, gate, ⟨s.trans gov.1, ePrev.trans gov.2⟩, fun _ => ballast⟩
  | positioner =>
    obtain ⟨n, eq⟩ := positionerTake_of_trip trip
    rw [State.take, eq]
    exact ⟨trip, prot, gate, gov, later Receiver.noConfusion⟩
  | saw => exact ⟨trip, prot, gate, gov, later Receiver.noConfusion⟩
  | protection =>
    obtain ⟨same, uf, interval, -⟩ := settle_trip (decide (t.fset - settledMargin ≤ (c.f : Int))) t.prot
    rw [State.take, protectionTake_of_trip trip]
    exact ⟨same.trans trip, ⟨uf.trans prot.1, interval.trans prot.2⟩, gate, gov, later Receiver.noConfusion⟩

end

/-- A flag that raising would not change is set. -/
theorem and_eq_of_or_eq {a m : Half} (set : a ||| m = a) : a &&& m = m := by
  rw [← set]
  ext i
  simp only [BitVec.getElem_and, BitVec.getElem_or, Bool.and_eq_right_iff_imp, Bool.or_eq_true]
  exact .inr

/-- Settles O42. -/
theorem overspeedTripsInEveryReceiverOrder : Obligations.OverspeedTripsInEveryReceiverOrder := by
  intro order sense c s perm
  refine ⟨fun free above => ?onset, fun trip => ?later⟩
  case onset =>
    have start : OnsetUnderway s order s := ⟨fun _ => ⟨rfl, rfl⟩, fun none => absurd (mem_order perm .protection) none⟩
    obtain ⟨trip, uf, full, check, target, raised⟩ :=
      (offer_induction perm start fun _ _ _ once => onsetUnderway_take (sense := sense) free above once).2 List.not_mem_nil
    exact ⟨⟨trip, full⟩, uf, target, check, and_eq_of_or_eq raised⟩
  case later =>
    have start : TripUnderway s order s :=
      ⟨trip, ⟨rfl, rfl⟩, ⟨rfl, rfl⟩, ⟨rfl, rfl⟩, fun none => absurd (mem_order perm .governor) none⟩
    obtain ⟨still, ⟨uf, interval⟩, ⟨target, drive⟩, ⟨sum, ePrev⟩, full⟩ :=
      offer_induction (c := c) perm start fun _ _ _ _ => tripUnderway_take (sense := sense)
    exact ⟨⟨still, full List.not_mem_nil⟩, uf, target, drive, sum, ePrev, interval⟩

end Sys2Proof.Machine

/-! ## Proofs: an ordinary completion (10_frequency_protection_and_load_shedding.md 10.5, 10.6, 03 3.5, 09 9.5) -/

namespace Sys2Proof.Machine

section

variable {s : State} {c : Completion}

/-! ### The protection unit outside a trip and below the threshold (R171, R175) -/

theorem settle_settled (good : Bool) (p : Protection) : (p.settle good).settled =
    if good then (if p.settled = .stopped then .running 30000000 else p.settled) else .stopped := by
  unfold Protection.settle
  cases good with
  | false => rfl
  | true =>
    rw [if_pos rfl, if_pos rfl]
    split
    · next stopped => rw [if_pos stopped]; rfl
    · next running => rw [if_neg (by rw [running]; exact Settled.noConfusion)]
    · next holds => rw [if_neg (by rw [holds]; exact Settled.noConfusion)]

/-- R171: a window cannot bring the count to an eligible one. -/
def Protection.quiet (p : Protection) : Prop := p.uf < 2 ∨ p.interval ≠ none

/-- R171, R175: what a completion leaves of a protection unit that stood at `p`, and of the table, where the unit found the governor
`g`. -/
structure Counted (p : Protection) (table : Vector Record 64) (fset : Int) (c : Completion) (g : Governor) (t : State) : Prop where
  settled : t.prot.settled =
    if fset - 200 ≤ (c.f : Int) then (if p.settled = .stopped then .running 30000000 else p.settled) else .stopped
  clear : ¬ ((c.f : Int) < fset - (p.ufOffset : Int) ∧ g.b = 0) → t.prot.uf = 0 ∧ t.prot.interval = p.interval
  few : (c.f : Int) < fset - (p.ufOffset : Int) → g.b = 0 → p.quiet →
    t.prot.uf = min 3 (p.uf + 1) ∧ t.prot.interval = p.interval ∧ t.table = table
  due : (c.f : Int) < fset - (p.ufOffset : Int) → g.b = 0 → p.uf = 2 ∨ p.uf = 3 → p.interval = none →
    t.prot.uf = 0 ∧ t.prot.interval = some (p.shedInterval * 1000000)

theorem countUf_of_notDue {under : Bool} (free : s.prot.trip = false) (stands : under = true → s.prot.quiet) :
    s.countUf under = { s with prot := { s.prot with uf := if under then min 3 (s.prot.uf + 1) else 0 } } := by
  rw [countUf_eq under s free]
  refine if_neg fun due => ?_
  obtain ⟨⟨-, full⟩, idle⟩ := (Bool.and_eq_true_iff.mp due).imp_left Bool.and_eq_true_iff.mp
  have full : (if under = true then min 3 (s.prot.uf + 1) else 0) = 3 := of_decide_eq_true full
  cases under with
  | false => cases full
  | true =>
    rcases stands rfl with few | running
    · rw [if_pos rfl] at full
      omega
    · exact running (Option.isNone_iff_eq_none.mp idle)

theorem countUf_of_due (free : s.prot.trip = false) (full : s.prot.uf = 2 ∨ s.prot.uf = 3) (idle : s.prot.interval = none) :
    (s.countUf true).prot.uf = 0 ∧ (s.countUf true).prot.interval = some (s.prot.shedInterval * 1000000) := by
  have counted : min 3 (s.prot.uf + 1) = 3 := by omega
  rw [countUf_eq true s free]
  dsimp only
  rw [if_pos rfl, counted, if_pos (by rw [Protection.stepDue, free, idle]; rfl)]
  obtain ⟨o, prot⟩ := shedStep_prot { s with prot := { s.prot with uf := 3 } }
  rw [prot]
  exact ⟨rfl, rfl⟩

/-- R171, R175: below the threshold a completion moves the settled timer and counts its window. -/
theorem protectionTake_of_below (below : (c.f : Int) < s.fset + (s.prot.tripOffset : Int)) : s.protectionTake c =
    State.countUf (s.underAt c.f) { s with prot := s.prot.settle (decide (s.fset - 200 ≤ (c.f : Int))) } := by
  obtain ⟨-, -, -, offset, ufOffset, -⟩ := settle_trip (decide (s.fset - 200 ≤ (c.f : Int))) s.prot
  have same : ∀ p : Protection, p.ufOffset = s.prot.ufOffset → { s with prot := p }.underAt c.f = s.underAt c.f :=
    fun p offset => congrArg (fun o : Nat => decide ((c.f : Int) < s.fset - (o : Int)) && decide (s.gov.b = 0)) offset
  rw [State.protectionTake, if_neg]
  · exact congrArg (fun under => State.countUf under _) (same _ ufOffset)
  intro onset
  obtain ⟨-, above⟩ := Bool.and_eq_true_iff.mp onset
  have above := of_decide_eq_true above
  change s.fset + ((s.prot.settle (decide (s.fset - 200 ≤ (c.f : Int)))).tripOffset : Int) ≤ (c.f : Int) at above
  rw [offset] at above
  omega

section

variable (free : s.prot.trip = false) (below : (c.f : Int) < s.fset + (s.prot.tripOffset : Int))

include free below

theorem protectionTake_blocks :
    (s.protectionTake c).prot.trip = false ∧ (s.protectionTake c).gov = s.gov ∧ (s.protectionTake c).fset = s.fset ∧
      (s.protectionTake c).gate = s.gate := by
  have blocks := countUf_shedBlocks (s.underAt c.f) { s with prot := s.prot.settle (decide (s.fset - 200 ≤ (c.f : Int))) }
  rw [protectionTake_of_below below]
  exact ⟨(countUf_trip _ _).trans ((settle_trip _ _).1.trans free),
    block_of_blank State.gov State.shedBlocks (by rintro ⟨⟩; rfl) blocks,
    block_of_blank State.fset State.shedBlocks (by rintro ⟨⟩; rfl) blocks,
    block_of_blank State.gate State.shedBlocks (by rintro ⟨⟩; rfl) blocks⟩

theorem protectionTake_saw (quiet : s.prot.quiet) : (s.protectionTake c).saw = s.saw := by
  obtain ⟨trip, uf, interval, -⟩ := settle_trip (decide (s.fset - 200 ≤ (c.f : Int))) s.prot
  rw [protectionTake_of_below below, countUf_of_notDue (trip.trans free)]
  intro _
  show _ < 2 ∨ _ ≠ none
  rw [uf, interval]
  exact quiet

theorem protectionTake_counted : Counted s.prot s.table s.fset c s.gov (s.protectionTake c) := by
  obtain ⟨trip, uf, interval, -, -, shedInterval⟩ := settle_trip (decide (s.fset - 200 ≤ (c.f : Int))) s.prot
  have free' := trip.trans free
  rw [protectionTake_of_below below]
  refine ⟨?_, fun ballast => ?_, fun under noBallast quiet => ?_, fun under noBallast full idle => ?_⟩
  · rw [countUf_settled, settle_settled]
    simp only [decide_eq_true_eq]
  · have notUnder : s.underAt c.f = false := by
      simp only [State.underAt, Bool.and_eq_false_iff, decide_eq_false_iff_not]
      tauto
    rw [notUnder, countUf_of_notDue free' Bool.noConfusion]
    exact ⟨rfl, interval⟩
  all_goals
    have counts : s.underAt c.f = true := by
      rw [State.underAt, decide_eq_true under, decide_eq_true noBallast]
      rfl
    rw [counts]
  · have quiet : (s.prot.settle (decide (s.fset - 200 ≤ (c.f : Int)))).quiet := by
      rw [Protection.quiet, uf, interval]
      exact quiet
    rw [countUf_of_notDue free' fun _ => quiet]
    exact ⟨by show min 3 (_ + 1) = _; rw [uf], interval, rfl⟩
  · have stepped := countUf_of_due (s := { s with prot := s.prot.settle (decide (s.fset - 200 ≤ (c.f : Int))) }) free'
      (by rw [uf]; exact full) (interval.trans idle)
    rw [shedInterval] at stepped
    exact stepped

end

/-! ### The positioner and the saw (R49, R161) -/

theorem setTarget_trim (t : Nat) (g : Gate) : (g.setTarget t).trim = g.trim := by
  unfold Gate.setTarget Gate.decide Gate.decideStopped
  dsimp only
  split
  · split_ifs <;> rfl
  · split <;> rfl
  · split <;> rfl
  · rfl
  · rfl

/-- R49: the trim counter of a gate that stood at `g`. -/
def Trimmed (g h : Gate) : Prop := (g.trim < 15 → h = { g with trim := g.trim + 1 }) ∧ (g.trim = 15 → h.trim = 0)

theorem positionerTake_trimmed (s : State) : Trimmed s.gate s.positionerTake.gate := by
  refine ⟨fun early => ?_, fun sixteenth => ?_⟩
  · rw [State.positionerTake, if_neg (by omega)]
  · rw [State.positionerTake, if_pos (by omega)]
    unfold State.trimDecision
    split
    · rfl
    · split
      · rfl
      · exact setTarget_trim _ _

/-! ### The four receivers together -/

/-- A receiver's part of a completion: `left` while it has still to take it, and `taken` afterwards. -/
def Handed (r : Receiver) (rest : List Receiver) (left taken : Prop) : Prop := (r ∈ rest → left) ∧ (r ∉ rest → taken)

theorem Handed.own {r : Receiver} {rest : List Receiver} {left taken left' taken' : Prop} (part : Handed r (r :: rest) left taken)
    (once : r ∉ rest) (takes : left → taken') : Handed r rest left' taken' :=
  ⟨fun mem => absurd mem once, fun _ => takes (part.1 List.mem_cons_self)⟩

theorem Handed.other {r q : Receiver} {rest : List Receiver} {left taken left' taken' : Prop} (part : Handed r (q :: rest) left taken)
    (other : r ≠ q) (keepsLeft : left → left') (keepsTaken : taken → taken') : Handed r rest left' taken' :=
  ⟨fun mem => keepsLeft (part.1 (List.mem_cons_of_mem q mem)),
    fun none => keepsTaken (part.2 fun mem => (List.mem_cons.mp mem).elim other none)⟩

/-- An ordinary completion under way: `done` is the governor once it has taken it. -/
structure CompletionUnderway (c : Completion) (s : State) (done : Governor) (rest : List Receiver) (t : State) : Prop where
  free : t.prot.trip = false
  fset : t.fset = s.fset
  gov : Handed .governor rest (t.gov = s.gov) (t.gov = done)
  prot : Handed .protection rest (t.prot = s.prot ∧ t.table = s.table)
    (∃ g, (g = s.gov ∨ g = done) ∧ Counted s.prot s.table s.fset c g t)
  saw : s.prot.quiet → Handed .saw rest (t.saw = s.saw)
    (∃ g : Governor, (g = s.gov ∨ g = done) ∧ t.saw = s.saw.surplusTest g.bs)
  gate : Handed .positioner rest (t.gate = s.gate) (Trimmed s.gate t.gate)

/-- The governor as a receiver finds it, before or after its own part. -/
theorem CompletionUnderway.found {done : Governor} {rest : List Receiver} {t : State}
    (underway : CompletionUnderway c s done rest t) : t.gov = s.gov ∨ t.gov = done := by
  by_cases left : .governor ∈ rest
  · exact .inl (underway.gov.1 left)
  · exact .inr (underway.gov.2 left)

theorem completionUnderway_take {sense : BitVec 8} {rest : List Receiver} {t : State} {r : Receiver}
    (below : (c.f : Int) < s.fset + (s.prot.tripOffset : Int)) (once : r ∉ rest)
    (underway : CompletionUnderway c s (s.gov.take false s.fset s.gov.outputs sense c).1 (r :: rest) t) :
    CompletionUnderway c s (s.gov.take false s.fset s.gov.outputs sense c).1 rest (t.take s.gov.outputs sense c r) := by
  have found := underway.found
  obtain ⟨free, fset, gov, prot, saw, gate⟩ := underway
  cases r with
  | governor =>
    obtain ⟨same, still⟩ := governorTake_fset (c := c) s.gov.outputs sense free
    obtain ⟨a, eq, -⟩ := governorTake_eq s.gov.outputs sense c t
    refine ⟨(congrArg Protection.trip same).trans free, still.trans fset, gov.own once fun left => ?_, ?_, fun quiet => ?_, ?_⟩
    · rw [State.take, eq, left, free, fset]
    all_goals rw [State.take, eq]
    · exact prot.other Receiver.noConfusion id fun ⟨g, at_, settled, clear, few, due⟩ =>
        ⟨g, at_, settled, clear, few, due⟩
    · exact (saw quiet).other Receiver.noConfusion id id
    · exact gate.other Receiver.noConfusion id id
  | positioner =>
    have blank := positionerTake_exceptGate t
    have keeps : ∀ {α : Type} (block : State → α), (∀ u, block u.exceptGate = block u) → block t.positionerTake = block t :=
      fun block left => block_of_blank block State.exceptGate left blank
    have gov' : t.positionerTake.gov = t.gov := keeps State.gov (by rintro ⟨⟩; rfl)
    have prot' : t.positionerTake.prot = t.prot := keeps State.prot (by rintro ⟨⟩; rfl)
    have table' : t.positionerTake.table = t.table := keeps State.table (by rintro ⟨⟩; rfl)
    have saw' : t.positionerTake.saw = t.saw := keeps State.saw (by rintro ⟨⟩; rfl)
    refine ⟨?_, (keeps State.fset (by rintro ⟨⟩; rfl)).trans fset, ?_, ?_, fun quiet => ?_, gate.own once fun left => ?_⟩
    · exact (congrArg Protection.trip prot').trans free
    · exact gov.other Receiver.noConfusion gov'.trans gov'.trans
    · refine prot.other Receiver.noConfusion (fun ⟨p, table⟩ => ⟨prot'.trans p, table'.trans table⟩) fun ⟨g, at_, counted⟩ =>
        ⟨g, at_, ?_⟩
      obtain ⟨settled, clear, few, due⟩ := counted
      rw [← prot'] at settled clear few due
      rw [← table'] at few
      exact ⟨settled, clear, few, due⟩
    · exact (saw quiet).other Receiver.noConfusion saw'.trans fun ⟨g, at_, tested⟩ => ⟨g, at_, saw'.trans tested⟩
    · exact left ▸ positionerTake_trimmed t
  | saw =>
    refine ⟨free, fset, gov.other Receiver.noConfusion id id, ?_, fun quiet => (saw quiet).own once fun left => ?_,
      gate.other Receiver.noConfusion id id⟩
    · exact prot.other Receiver.noConfusion id fun ⟨g, at_, settled, clear, few, due⟩ => ⟨g, at_, settled, clear, few, due⟩
    · exact ⟨t.gov, found, congrArg (Saw.surplusTest t.gov.bs) left⟩
  | protection =>
    obtain ⟨same, table⟩ := prot.1 List.mem_cons_self
    have below : (c.f : Int) < t.fset + (t.prot.tripOffset : Int) := by rw [fset, same]; exact below
    obtain ⟨trip, gov', fset', gate'⟩ := protectionTake_blocks free below
    refine ⟨trip, fset'.trans fset, gov.other Receiver.noConfusion gov'.trans gov'.trans, prot.own once fun _ => ?_,
      fun quiet => ?_, gate.other Receiver.noConfusion gate'.trans fun trimmed => ?_⟩
    · have counted := protectionTake_counted free below
      rw [same, table, fset] at counted
      exact ⟨t.gov, found, counted⟩
    · have saw' : (t.protectionTake c).saw = t.saw := protectionTake_saw free below (same ▸ quiet)
      exact (saw quiet).other Receiver.noConfusion saw'.trans fun ⟨g, at_, tested⟩ => ⟨g, at_, saw'.trans tested⟩
    · show Trimmed s.gate (t.protectionTake c).gate
      rw [gate']
      exact trimmed

end

theorem surplusTest_of_preparing {w : Saw} {d : Nat} (bs : Nat) (state : w.state = .preparing) (draw : w.draw = some d) :
    w.surplusTest bs =
      if d + 50 ≤ bs then { w with state := .released, preparing := none, idle := some 600000000 } else w := by
  unfold Saw.surplusTest
  rw [state, draw]
  rfl

theorem surplusTest_of_other {w : Saw} (bs : Nat) (state : w.state ≠ .preparing) : w.surplusTest bs = w := by
  unfold Saw.surplusTest
  split
  · next preparing _ => exact absurd preparing state
  · rfl

/-- Settles O41. -/
theorem completionsMoveProtectionAndSaw : Obligations.CompletionsMoveProtectionAndSaw := by
  intro order sense c s perm free below
  have all := mem_order perm
  have start : CompletionUnderway c s (s.gov.take false s.fset s.gov.outputs sense c).1 order s :=
    ⟨free, rfl, ⟨fun _ => rfl, fun none => absurd (all _) none⟩, ⟨fun _ => ⟨rfl, rfl⟩, fun none => absurd (all _) none⟩,
      fun _ => ⟨fun _ => rfl, fun none => absurd (all _) none⟩, ⟨fun _ => rfl, fun none => absurd (all _) none⟩⟩
  obtain ⟨trip, -, ⟨-, gov⟩, ⟨-, prot⟩, saw, ⟨-, gate⟩⟩ :=
    offer_induction perm start fun _ _ _ once => completionUnderway_take below once
  obtain ⟨early, sixteenth⟩ := gate List.not_mem_nil
  obtain ⟨g, at_, settled, clear, few, due⟩ := prot List.not_mem_nil
  rw [← gov List.not_mem_nil] at at_
  refine ⟨trip, settled, fun ballast => clear ?_, fun under b b' => ⟨few under ?_, due under ?_⟩, fun quiet => ?_, early, sixteenth⟩
  · rintro ⟨under, noBallast⟩
    rcases ballast with notUnder | ⟨before, after⟩
    · exact notUnder under
    · rcases at_ with rfl | rfl <;> omega
  · rcases at_ with rfl | rfl <;> assumption
  · rcases at_ with rfl | rfl <;> assumption
  · obtain ⟨h, at_, tested⟩ := (saw quiet).2 List.not_mem_nil
    rw [← gov List.not_mem_nil] at at_
    refine ⟨fun d state draw => ⟨fun before after => ?_, fun before after => ?_⟩, fun other => ?_⟩
    · rw [tested, surplusTest_of_preparing _ state draw, if_pos]
      rcases at_ with rfl | rfl <;> assumption
    · rw [tested, surplusTest_of_preparing _ state draw, if_neg]
      rcases at_ with rfl | rfl <;> omega
    · rw [tested, surplusTest_of_other _ other]

end Sys2Proof.Machine

/-! ## Proofs: the shed step (10_frequency_protection_and_load_shedding.md 10.5) -/

namespace Sys2Proof.Machine

section

variable {s : State} {c : Nat} {n : Slot} {st : Station} {sv : Service}

/-! ### The records of a shed step (R172, R173) -/

theorem mem_shedList : (n, sv) ∈ s.shedList c ↔ ∃ st, s.onLineService n = some (st, sv) ∧ shedNamed c sv = true := by
  rw [State.shedList, List.mem_filterMap]
  constructor
  · rintro ⟨m, -, found⟩
    split at found
    · next st tv here =>
      split at found
      · next named =>
        cases found
        exact ⟨st, here, named⟩
      · cases found
    · cases found
  · rintro ⟨st, here, named⟩
    refine ⟨n, List.mem_finRange n, ?_⟩
    rw [here]
    exact if_pos named

theorem shedList_apart (c : Nat) (s : State) : (s.shedList c).Pairwise fun x y => x.1 ≠ y.1 := by
  have slot : ∀ {m : Slot} {x : Slot × Service}, (match s.onLineService m with
      | some (_, sv) => if shedNamed c sv then some (m, sv) else none
      | none => none) = some x → x.1 = m := fun found => by
    split at found
    · split at found
      · cases found; rfl
      · cases found
    · cases found
  refine List.pairwise_filterMap.mpr ((List.nodup_finRange 64).imp fun apart x hx y hy same => apart ?_)
  rw [← slot hx, ← slot hy, same]

/-- R92, R173: a Connected record is shed under the Frequency flag with its demand. -/
theorem shedRequest_of_named (here : s.onLineService n = some (st, sv)) (named : shedNamed c sv = true) :
    (s.shedRequest true n).record n =
      ⟨true, some { st with service := some { sv with condition := .shed (some (sv.demand.getD 0)) false } }⟩ := by
  obtain ⟨⟨connected, staying⟩, -⟩ := (Bool.and_eq_true_iff.mp named).imp_left Bool.and_eq_true_iff.mp
  have shed : sv.shedBy true = some (.shed (some (sv.demand.getD 0)) false) := by
    rw [Service.shedBy, if_neg (of_decide_eq_true staying), of_decide_eq_true connected]
    rfl
  rw [State.shedRequest, here]
  dsimp only
  rw [shed]
  dsimp only
  rw [State.setService, setStation_markChanged]
  exact record_setRecord_self n _ s

theorem shedRequest_record_ne {m : Slot} (freq : Bool) (other : n ≠ m) : (s.shedRequest freq n).record m = s.record m := by
  unfold State.shedRequest
  split
  · split
    · rw [State.setService, setStation_markChanged]
      exact record_setRecord_ne n m _ s other
    · rfl
  · rfl

theorem onLineService_congr {t : State} (same : t.record n = s.record n) : t.onLineService n = s.onLineService n := by
  unfold State.onLineService State.station
  rw [same]

/-- R173 step 1: each record of the list is shed, and no other is touched. -/
theorem shedRecords_record (l : List (Slot × Service)) (apart : l.Pairwise fun x y => x.1 ≠ y.1)
    (named : ∀ x ∈ l, ∃ st, s.onLineService x.1 = some (st, x.2) ∧ shedNamed c x.2 = true) :
    (∀ n sv, (n, sv) ∈ l → ∃ st : Station, (s.shedRecords l).record n = ⟨true, some st⟩ ∧
      st.service = some { sv with condition := .shed (some (sv.demand.getD 0)) false }) ∧
    ∀ n, (∀ sv, (n, sv) ∉ l) → (s.shedRecords l).record n = s.record n := by
  induction l generalizing s with
  | nil => exact ⟨fun _ _ mem => absurd mem List.not_mem_nil, fun _ _ => rfl⟩
  | cons x l ih =>
    obtain ⟨first, later⟩ := List.pairwise_cons.mp apart
    obtain ⟨st, here, own⟩ := named x List.mem_cons_self
    have stands : ∀ y ∈ l, (s.shedRequest true x.1).record y.1 = s.record y.1 := fun y mem =>
      shedRequest_record_ne true (first y mem)
    obtain ⟨shed, rest⟩ := ih (s := s.shedRequest true x.1) later fun y mem => by
      rw [onLineService_congr (stands y mem)]
      exact named y (List.mem_cons_of_mem x mem)
    refine ⟨fun n sv mem => ?_, fun n none => ?_⟩
    · rcases List.mem_cons.mp mem with rfl | mem
      · refine ⟨_, (rest n fun tv mem => first _ mem rfl).trans (shedRequest_of_named here own), rfl⟩
      · exact shed n sv mem
    · refine (rest n fun sv mem => none sv (List.mem_cons_of_mem x mem)).trans (shedRequest_record_ne true fun same => ?_)
      exact none x.2 (same ▸ List.mem_cons_self)

/-! ### The saw and the queue in a shed step (R139, R165, R173) -/

theorem sawShedOrder_table (s : State) : s.sawShedOrder.table = s.table ∧ s.sawShedOrder.engine = s.engine := by
  unfold State.sawShedOrder
  split <;> exact ⟨rfl, rfl⟩

theorem frequencyShed_table (c : Nat) (s : State) :
    (s.frequencyShed c).table = (s.shedRecords (s.shedList c)).table ∧
      (s.frequencyShed c).engine = s.engine.placeShed c (shedAmount (s.shedList c)) := by
  have engine : (s.shedRecords (s.shedList c)).engine = s.engine :=
    block_of_blank State.engine State.exceptTable (by rintro ⟨⟩; rfl) (shedRecords_exceptTable _ s)
  have placed : (s.shedPlaced c).engine = s.engine.placeShed c (shedAmount (s.shedList c)) :=
    congrArg (Engine.placeShed c (shedAmount (s.shedList c))) engine
  rw [frequencyShed_eq]
  dsimp only
  split
  · obtain ⟨table, engine⟩ := sawShedOrder_table (s.shedPlaced c)
    exact ⟨table, engine.trans placed⟩
  · exact ⟨rfl, placed⟩

/-- R173 step 3: a saw of another class is let be. -/
theorem frequencyShed_saw (other : s.saw.cls ≠ c) : (s.frequencyShed c).saw = s.saw := by
  have placed : (s.shedPlaced c).saw = s.saw :=
    block_of_blank State.saw (fun t => t.exceptTable.exceptEngine) (by rintro ⟨⟩; rfl) (shedPlaced_exceptEngine c s)
  rw [frequencyShed_eq]
  dsimp only
  rw [if_neg (by rw [placed]; exact other), placed]

theorem placeShed_of_empty {e : Engine} (amount : Nat) (empty : e.sheds = []) :
    e.placeShed c amount = { e with sheds := [⟨c, amount⟩] } := by
  rw [Engine.placeShed, empty]
  rfl

/-! ### The class of a shed step (R172) -/

theorem shedClass_none (nobody : ∀ d, 1 ≤ d → d ≤ 3 → s.qualifies d = false) : s.shedClass = none := by
  refine List.find?_eq_none.mpr fun d mem => ?_
  have range : 1 ≤ d ∧ d ≤ 3 := by
    simp only [List.mem_cons, List.not_mem_nil, or_false] at mem
    omega
  rw [nobody d range.1 range.2]
  exact Bool.false_ne_true

theorem shedClass_some (low : 1 ≤ c) (high : c ≤ 3) (found : s.qualifies c = true)
    (highest : ∀ d, c < d → d ≤ 3 → s.qualifies d = false) : s.shedClass = some c := by
  unfold State.shedClass
  obtain rfl | rfl | rfl : c = 3 ∨ c = 2 ∨ c = 1 := by omega
  · rw [List.find?_cons, found]
  · rw [List.find?_cons, highest 3 (by omega) (by omega), List.find?_cons, found]
  · rw [List.find?_cons, highest 3 (by omega) (by omega), List.find?_cons, highest 2 (by omega) (by omega), List.find?_cons,
      found]

end

/-- Settles O44. -/
theorem shedStepTakesTheHighestClass : Obligations.ShedStepTakesTheHighestClass := by
  intro s awake free full idle
  have due : s.prot.stepDue = true := by
    rw [Protection.stepDue, free, full, idle]
    rfl
  have row : exec .shedStep s = .next (State.settle s s.shedStep) :=
    (live_of_awake _ s awake).trans (congrArg (fun t => Host.Outcome.next (State.settle s t)) (if_pos due))
  refine ⟨fun nobody => ?deficit, fun c low high found highest => ?_⟩
  case deficit =>
    rw [row, State.shedStep, shedClass_none nobody]
    rfl
  have cls := shedClass_some low high found highest
  refine ⟨fun barred => ?passed, fun auto running => ?shed⟩
  case passed =>
    have refused : s.shedAllowed = false := by
      rw [State.shedAllowed]
      rcases barred with off | stopped
      · rw [off]; rfl
      · rw [stopped]; exact Bool.and_false _
    rw [row, State.shedStep, cls]
    dsimp only
    rw [refused]
    rfl
  case shed =>
    have allowed : s.shedAllowed = true := by
      rw [State.shedAllowed, auto, decide_eq_true running]
      rfl
    have step : s.shedStep = (s.frequencyShed c).endShedStep := by
      rw [State.shedStep, cls]
      exact if_pos allowed
    obtain ⟨table, engine⟩ := frequencyShed_table c s
    obtain ⟨shed, rest⟩ := shedRecords_record (s.shedList c) (shedList_apart c s) fun x mem => mem_shedList.mp mem
    have record : ∀ n, (s.frequencyShed c).endShedStep.record n = (s.shedRecords (s.shedList c)).record n := fun n =>
      congrArg (fun t : Vector Record 64 => t[n]) table
    have blocks : (s.frequencyShed c).endShedStep.shedBlocks = s.shedBlocks := step ▸ shedStep_shedBlocks s
    refine ⟨(s.frequencyShed c).endShedStep, row.trans (by rw [step]), ?_, fun n sv mem => ?_, fun n none => ?_, fun empty => ?_,
      fun other => ?_, ?_, ?_, ?_⟩
    · rw [State.endShedStep, frequencyShed_prot]
    · obtain ⟨st, here, service⟩ := shed n sv mem
      rw [← record n] at here
      exact ⟨st, congrArg Record.station here, service, congrArg Record.changed here⟩
    · exact (record n).trans (rest n none)
    · exact engine.trans (placeShed_of_empty _ empty)
    · exact frequencyShed_saw other
    · exact block_of_blank State.gov State.shedBlocks (by rintro ⟨⟩; rfl) blocks
    · exact block_of_blank State.gate State.shedBlocks (by rintro ⟨⟩; rfl) blocks
    · exact block_of_blank State.water State.shedBlocks (by rintro ⟨⟩; rfl) blocks

end Sys2Proof.Machine

/-! ## Proofs: settings, reads and transactions (11_command_port_and_message_formats.md 11.2 to 11.4) -/

namespace Sys2Proof.Machine

/-! ### Settings (R37, R116, R176, R177) -/

theorem flagOf_of_other {m : Byte} (notZero : m ≠ 0) (notOne : m ≠ 1) : flagOf m = none := by
  rw [flagOf, if_neg notZero, if_neg notOne]

theorem protInRange_iff {t u : Half} {i : Byte} : protInRange t u i = true ↔
    (2000 ≤ t.toNat ∧ t.toNat ≤ 8000) ∧ (300 ≤ u.toNat ∧ u.toNat ≤ 3000) ∧ 1 ≤ i.toNat ∧ i.toNat ≤ 10 := by
  simp only [protInRange, Bool.and_eq_true, decide_eq_true_eq, and_assoc]

theorem execProtSet_eq {s : State} (taken : s.accepts) (f t u : Half) (i : Byte) : exec (.protSet f t u i) s =
    let r : State × Reply :=
      if s.prot.lock then (s, .plain .locked)
      else if !protInRange t u i then (s, .plain .range)
      else
        ({ s with
          gov := { s.gov with offset := s.offsetOf f }
          prot := { s.prot with tripOffset := t.toNat, ufOffset := u.toNat, shedInterval := i.toNat } }, .plain .done)
    .next (State.answer 0x71 100 r.2 r.1) :=
  exec_of_command (i := .protSet f t u i) taken (show exec _ s = execProtSet f t u i s from rfl)

/-- Settles O45. -/
theorem settingsAreStored : Obligations.SettingsAreStored := by
  intro s awake
  refine ⟨fun answers => ?commands, fun fresh => ?interval, fun t running fresh => ?settled⟩
  case commands =>
    have taken : s.accepts := ⟨awake, answers⟩
    refine ⟨fun kp ki => ?_, fun r => ?_, fun f t u i lock => ?_, fun f t u i free outside => ?_,
      fun f t u i free t1 t2 u1 u2 i1 i2 => ?_, ?_, ?_, ?_, fun m notZero notOne => ?_⟩
    · exact exec_of_command (i := .gainSet kp ki) taken (show exec _ s = execGainSet kp ki s from rfl)
    · exact exec_of_command (i := .reserveSet r) taken (show exec _ s = execReserveSet r s from rfl)
    · rw [execProtSet_eq taken, if_pos lock]
    · have refused : protInRange t u i = false := Bool.eq_false_iff.mpr fun inside => by
        have := protInRange_iff.mp inside
        omega
      rw [execProtSet_eq taken, if_neg (by rw [free]; exact Bool.false_ne_true), refused]
      rfl
    · rw [execProtSet_eq taken, if_neg (by rw [free]; exact Bool.false_ne_true),
        protInRange_iff.mpr ⟨⟨t1, t2⟩, ⟨u1, u2⟩, i1, i2⟩]
      rfl
    · exact exec_of_command (i := .protLock) taken (show exec _ s = execProtLock s from rfl)
    · exact exec_of_command (i := .shedMode 0) taken (show exec _ s = execShedMode 0 s from rfl)
    · exact exec_of_command (i := .shedMode 1) taken (show exec _ s = execShedMode 1 s from rfl)
    · rw [exec_of_command (i := .shedMode m) taken (show exec _ s = execShedMode m s from rfl), flagOf_of_other notZero notOne]
      rfl
  case interval =>
    exact expiry_of_fresh .shedIntervalExpiry (fun s => { s with prot := { s.prot with interval := none } }) s awake fresh
  case settled =>
    refine (expiry_of_fresh .settledTimerExpiry (fun s => { s with prot := s.prot.settledOver }) s awake fresh).trans ?_
    rw [Protection.settledOver, running]

/-! ### Reads (R180, R182) -/

theorem firstChanged_of {s : State} {n : Slot} (changed : (s.record n).changed = true)
    (lowest : ∀ m : Slot, m < n → (s.record m).changed = false) : s.firstChanged = some n :=
  (slots_find_iff _ n).mpr ⟨changed, lowest⟩

theorem firstChanged_none {s : State} (clear : ∀ m : Slot, (s.record m).changed = false) : s.firstChanged = none :=
  List.find?_eq_none.mpr fun m _ => by
    rw [clear m]
    exact Bool.false_ne_true

/-- Settles O46. -/
theorem readsGiveTheStateUnchanged : Obligations.ReadsGiveTheStateUnchanged := by
  intro s taken
  refine ⟨?_, ?_, ?_, ?_, ?_, ?_, ?_, ?_, ?_, ?_, ?_, fun slot n here => ?_, fun slot large => ?_, ?_, fun mask => ?_,
    fun n changed lowest => ?_, fun clear => ?_⟩
  · exact exec_of_command (i := .governorRead) taken (show exec _ s = execGovernorRead s from rfl)
  · exact exec_of_command (i := .gateRead) taken (show exec _ s = execGateRead s from rfl)
  · exact exec_of_command (i := .planRead) taken (show exec _ s = execPlanRead s from rfl)
  · exact exec_of_command (i := .accountRead) taken (show exec _ s = execAccountRead s from rfl)
  · exact exec_of_command (i := .lineRead) taken (show exec _ s = execLineRead s from rfl)
  · exact exec_of_command (i := .straysRead) taken (show exec _ s = execStraysRead s from rfl)
  · exact exec_of_command (i := .sawRead) taken (show exec _ s = execSawRead s from rfl)
  · exact exec_of_command (i := .protRead) taken (show exec _ s = execProtRead s from rfl)
  · exact exec_of_command (i := .attnRead) taken (show exec _ s = execAttnRead s from rfl)
  · exact exec_of_command (i := .ident) taken (show exec _ s = execIdent s from rfl)
  · exact exec_of_command (i := .status) taken (show exec _ s = execStatus s from rfl)
  · refine (exec_of_command (i := .readRecord slot) taken (show exec _ s = execReadRecord slot s from rfl)).trans ?_
    rw [slotCommand, here]
    rfl
  · rw [exec_of_command (i := .readRecord slot) taken (show exec _ s = execReadRecord slot s from rfl), slotCommand,
      (slotOf_none slot).mpr large]
    rfl
  · exact exec_of_command (i := .noOp) taken (show exec _ s = execNoOp s from rfl)
  · exact exec_of_command (i := .attnClear mask) taken (show exec _ s = execAttnClear mask s from rfl)
  · rw [exec_of_command (i := .nextChanged) taken (show exec _ s = execNextChanged s from rfl), firstChanged_of changed lowest]
    rfl
  · rw [exec_of_command (i := .nextChanged) taken (show exec _ s = execNextChanged s from rfl), firstChanged_none clear]
    rfl

section

variable {s : State}

/-! ### Transactions (R180, R181) -/

/-- R181, log 5: an answer takes at least 1 us and at most its bound. -/
theorem answer_within {code : Byte} {bound : Nat} (r : Reply) (s : State) (least : 1 ≤ bound) : ∃ d, 1 ≤ d ∧ d ≤ bound ∧
    State.answer code bound r s = { s with
      host := { s.host with forming := some ⟨code, r⟩, timer := some d, transaction := none }
      choices := s.choices + 1 } :=
  ⟨max 1 (min (Config.responseTime s.choices) bound), by omega, by omega, rfl⟩

/-- 11.6.2: the response to a transaction that is not ready for one. -/
theorem notReady_frame (echo : Byte) : Response.frame ⟨.notReady, echo, []⟩ = [0x0B, echo, 0x00, -(0x0B + echo)] := by
  have sum : byteSum [0x0B, echo, 0x00] = 0x0B + echo := by simp [byteSum]
  exact congrArg (fun b : Byte => [0x0B, echo, 0x00, -b]) sum

/-- R181: a frame that fails a check, of at least one byte. -/
theorem frameError_of_bad {mosi : List Bool} {code : Byte} {rest : List Byte} (answers : s.host.refuses = false)
    (bytes : shiftedIn mosi = code :: rest) (fails : frameFails (code :: rest) = true) :
    s.frameError mosi = s.answer code 100 (.plain .frame) := by
  rw [State.frameError, answers, bytes, fails]
  rfl

/-- R180: fewer than eight bits make no byte. -/
theorem shiftedIn_of_short {bits : List Bool} (short : bits.length < 8) : shiftedIn bits = [] := by
  unfold shiftedIn
  split
  · simp only [List.length_cons] at short
    omega
  · rfl

theorem frameError_of_short {mosi : List Bool} (short : mosi.length < 8) : s.frameError mosi = s.closeTransaction := by
  rw [State.frameError, shiftedIn_of_short short]
  exact ite_self _

/-- R180: three bytes of zeros and whatever follows them. -/
theorem rowOfMosi_of_zeros {n : Nat} (long : 24 ≤ n) : rowOfMosi (List.replicate n false) = .noOp := by
  obtain ⟨m, rfl⟩ := Nat.exists_eq_add_of_le' long
  have bytes : shiftedIn (List.replicate (m + 24) false) = 0 :: 0 :: 0 :: shiftedIn (List.replicate m false) := rfl
  rw [rowOfMosi, bytes]
  rfl

theorem formResponse_of {f : Forming} (forming : s.host.forming = some f) : s.formResponse =
    { s with host := { s.host with buffer := f.response s, forming := none, timer := none } } := by
  rw [State.formResponse, forming]

end

/-- Settles O47. -/
theorem transactionsGiveTheResponse : Obligations.TransactionsGiveTheResponse := by
  refine ⟨fun code bound r s least => answer_within r s least, fun s awake => ?_⟩
  have error : ∀ {mosi u}, s.frameError mosi = u → exec (.commandFrameError mosi) s = .next u := fun {mosi _} taken =>
    (live_of_awake (State.frameError mosi) s awake).trans (congrArg _ taken)
  have ready : ∀ {f u}, s.host.forming = some f → s.stale .responseReady = false →
      { s with host := { s.host with buffer := f.response s, forming := none, timer := none } } = u →
      exec .responseReady s = .next u := fun forming fresh taken =>
    (expiry_of_fresh .responseReady State.formResponse s awake fresh).trans
      (congrArg _ ((formResponse_of forming).trans taken))
  refine ⟨fun idle free => ?_, fun f idle forming => ?_, ?_, fun mosi code rest answers bytes fails => ?_, fun mosi short => ?_,
    fun n answers long => ?_, fun idle k => ?_, fun code r payload forming fresh => ?_, fun code what forming fresh => ?_⟩
  · refine (live_of_awake State.beginTransaction s awake).trans ?_
    rw [State.beginTransaction, idle, free]
  · refine (live_of_awake State.beginTransaction s awake).trans ?_
    rw [State.beginTransaction, idle, forming]
    dsimp only
    rw [notReady_frame]
  · exact live_of_awake State.closeTransaction s awake
  · exact error (frameError_of_bad answers bytes fails)
  · rw [rowOfMosi, shiftedIn_of_short short]
    exact error (frameError_of_short short)
  · rw [rowOfMosi_of_zeros long]
    exact exec_of_command (i := .noOp) ⟨awake, answers⟩ (show exec _ s = execNoOp s from rfl)
  · rw [State.misoPin, idle]
    rfl
  · exact ready forming fresh rfl
  · exact ready forming fresh rfl

/-- Settles O60. -/
theorem specFramesAreRead : Obligations.SpecFramesAreRead := by
  refine ⟨?_, ?_, ?_, ?_, ?_, ?_, ?_, ?_⟩ <;> rfl

end Sys2Proof.Machine

/-! ## Proofs: the resets (11_command_port_and_message_formats.md 11.5) -/

namespace Sys2Proof.Machine

section

variable {s : State}

/-! ### The end of a power-on or pin reset (R184) -/

/-- R39: the banks of a reset, with the outputs off at its end. -/
theorem allOff_resetBanks (ratings : Vector Nat 8) (offset : Int) (g : Governor) :
    (Governor.atReset (g.resetBanks ratings) offset).allOff = ⟨0, 0, 0, 0, 0, 0, true, 64, 16, offset,
      ratings.map (fun r => (⟨r, if r = 0 then .absent else .ready, 0, 0, false⟩ : Bank)), none, none⟩ := by
  have banks : (g.resetBanks ratings).map (fun b => { b with on := false }) =
      ratings.map (fun r => (⟨r, if r = 0 then .absent else .ready, 0, 0, false⟩ : Bank)) := by
    refine Vector.ext fun i small => ?_
    simp [Governor.resetBanks, Bank.atReset]
  exact congrArg (fun b => (⟨0, 0, 0, 0, 0, 0, true, 64, 16, offset, b, none, none⟩ : Governor)) banks

theorem resetOver_of_resetting {kind : ResetKind} (nomsel shut full engaged : Bool) (resetting : s.resetting = some kind) :
    s.resetOver nomsel shut full engaged = s.endReset kind nomsel shut full engaged := by
  rw [State.resetOver, resetting]

/-- R56: one end switch found active fixes the count. -/
theorem endReset_shut (kind : ResetKind) (nomsel engaged : Bool) (s : State) :
    let u := s.endReset kind nomsel true false engaged
    u.startCause = kind ∧ u.gate.p = 0 ∧ u.gate.target = 0 ∧ u.gate.calibrated = true :=
  ⟨rfl, rfl, Nat.zero_min _, rfl⟩

theorem endReset_both (kind : ResetKind) (nomsel engaged : Bool) (s : State) :
    let u := s.endReset kind nomsel true true engaged
    u.gate.drive = .jammed .switches ∧ u.attn = s.attn ||| 0x0004 := ⟨rfl, rfl⟩

end

/-- Settles O49. -/
theorem resetsLeaveTheirTables : Obligations.ResetsLeaveTheirTables := by
  intro s nomsel engaged
  refine ⟨⟨s.powerOnReset, rfl, rfl, rfl, ?_⟩, fun awake => ⟨s.pinReset, rfl, rfl, rfl, ?_⟩, fun resetting => ⟨?_, ?_⟩⟩
  · rw [← allOff_resetBanks Config.defaultRatings 0 s.gov]
    rfl
  · rw [show s.gov.banks.map Bank.rating = s.gov.ratings from rfl, ← allOff_resetBanks s.gov.ratings s.gov.offset s.gov]
    refine (congrArg Host.Outcome.next (resetOver_of_resetting (kind := .pin) nomsel false false engaged ?_)).trans rfl
    exact congrArg (fun k => some (overlap k)) awake
  · refine ⟨_, congrArg Host.Outcome.next (resetOver_of_resetting nomsel true false engaged resetting), ?_⟩
    exact endReset_shut .pin nomsel engaged s
  · refine ⟨_, congrArg Host.Outcome.next (resetOver_of_resetting nomsel true true engaged resetting), ?_⟩
    exact endReset_both .pin nomsel engaged s

/-! ### Supply reset (R185) -/

theorem supplyReset_saw (w : Saw) : w.supplyReset =
    if w.clutch then
      { w with
        state := .closing, draw := none, waiting := none, preparing := none, idle := none, stuck := some 3000000,
        nominal := 1500, cls := 2 }
    else
      { w with
        state := .idle, draw := none, reserved := 0, engaged := 0, waiting := none, preparing := none,
        idle := none, stuck := none, nominal := 1500, cls := 2 } := by
  unfold Saw.supplyReset
  cases w.clutch <;> rfl

/-- Settles O50. -/
theorem supplyResetEmptiesTheTable : Obligations.SupplyResetEmptiesTheTable := by
  intro s taken
  have mask : ~~~supplyResetMask = 0xC09F := by decide
  refine (exec_of_command (i := .supplyReset) taken (show exec _ s = execSupplyReset s from rfl)).trans ?_
  rw [settled, State.supplyReset, State.clearAttn, mask, supplyReset_saw]
  rfl

end Sys2Proof.Machine

/-! ## Proofs: the host's frames (11_command_port_and_message_formats.md 11.6) -/

namespace Sys2Proof.Machine

/-! ### Payload fields read back (R186, R187) -/

theorem byte_append_bandBytes (w : BitVec 40) : w.extractLsb' 32 8 ++ w.extractLsb' 24 8 ++ w.extractLsb' 16 8 ++
    w.extractLsb' 8 8 ++ w.extractLsb' 0 8 = w := by
  rw [BitVec.extractLsb'_append_extractLsb'_eq_extractLsb' (by rfl),
    BitVec.extractLsb'_append_extractLsb'_eq_extractLsb' (by rfl),
    BitVec.extractLsb'_append_extractLsb'_eq_extractLsb' (by rfl),
    BitVec.extractLsb'_append_extractLsb'_eq_extractLsb' (by rfl)]
  exact BitVec.extractLsb'_eq_self

theorem readHalf_split (f : Half → Instr) (h : Half) : readHalf f (splitHalf h) = some (f h) :=
  congrArg (fun x => some (f x)) (byte_append_halfBytes h)

theorem readSerial_split (f : Serial → Instr) (x : Serial) : readSerial f (splitSerial x) = some (f x) :=
  congrArg (fun x => some (f x)) (byte_append_wordBytes x)

theorem readTwoHalves_split (f : Half → Half → Instr) (h k : Half) :
    readTwoHalves f (splitHalf h ++ splitHalf k) = some (f h k) :=
  congrArg₂ (fun x y => some (f x y)) (byte_append_halfBytes h) (byte_append_halfBytes k)

theorem readHalfByte_split (f : Half → Byte → Instr) (h : Half) (b : Byte) :
    readHalfByte f (splitHalf h ++ [b]) = some (f h b) :=
  congrArg (fun x => some (f x b)) (byte_append_halfBytes h)

theorem readEdit_split (n c : Byte) (l : Half) : readEdit ([n] ++ splitHalf l ++ [c]) = some (.edit n l c) :=
  congrArg (fun x => some (Instr.edit n x c)) (byte_append_halfBytes l)

theorem readProvision_split (n k c con : Byte) (x : Serial) (l : Half) :
    readProvision ([n, k] ++ splitSerial x ++ [c] ++ splitHalf l ++ [con]) = some (.provision n k x c l con) :=
  congrArg₂ (fun x l => some (Instr.provision n k x c l con)) (byte_append_wordBytes x) (byte_append_halfBytes l)

theorem readProtSet_split (f t u : Half) (i : Byte) :
    readProtSet (splitHalf f ++ splitHalf t ++ splitHalf u ++ [i]) = some (.protSet f t u i) := by
  show some (Instr.protSet _ _ _ i) = _
  rw [byte_append_halfBytes, byte_append_halfBytes, byte_append_halfBytes]

theorem readRatings_split (r : Vector Half 8) : readRatings (r.toList.flatMap splitHalf) = some (.bankRatings r) := by
  obtain ⟨⟨l⟩, size⟩ := r
  match l, size with
  | [a0, a1, a2, a3, a4, a5, a6, a7], _ =>
    show some (Instr.bankRatings #v[_, _, _, _, _, _, _, _]) = _
    simp only [byte_append_halfBytes]

theorem bandsOf_split (bands : List (BitVec 40)) : bandsOf (bands.flatMap splitBand) = some bands := by
  induction bands with
  | nil => rfl
  | cons w bands ih =>
    show (bandsOf (bands.flatMap splitBand)).map _ = _
    rw [ih, byte_append_bandBytes]
    rfl

/-! ### Frames (R181, 11.6.2) -/

theorem byteSum_append (l m : List Byte) : byteSum (l ++ m) = byteSum l + byteSum m := by
  have sum : ∀ (m : List Byte) (a : Byte), m.foldl (· + ·) a = a + m.foldl (· + ·) 0 := by
    intro m
    induction m with
    | nil => exact fun a => (BitVec.add_zero a).symm
    | cons b m ih =>
      intro a
      rw [List.foldl_cons, List.foldl_cons, ih (a + b), ih (0 + b), show (0 : Byte) + b = b from BitVec.zero_add b, BitVec.add_assoc]
  rw [byteSum, List.foldl_append]
  exact sum m _

/-- 11.6.2: the check byte brings a sum to 0. -/
theorem byteSum_checked (l : List Byte) : byteSum (l ++ [-byteSum l]) = 0 := by
  have last : byteSum [-byteSum l] = -byteSum l := BitVec.zero_add _
  rw [byteSum_append, last, ← BitVec.sub_eq_add_neg, BitVec.sub_self]
  rfl

/-- R181: a frame of at most forty payload bytes passes the first three checks. -/
theorem decodeFrame_buildFrame (code : Byte) (payload extra : List Byte) (fits : payload.length ≤ 40) :
    decodeFrame (buildFrame code payload ++ extra) = decodePayload code payload := by
  have len : (BitVec.ofNat 8 payload.length).toNat = payload.length := Nat.mod_eq_of_lt (by omega)
  have sum := byteSum_checked (frameHead code payload)
  unfold buildFrame frameHead at *
  generalize -byteSum (code :: BitVec.ofNat 8 payload.length :: payload) = check at sum ⊢
  simp only [List.cons_append] at sum ⊢
  have whole : (payload ++ [check] ++ extra).take (payload.length + 1) = payload ++ [check] :=
    List.take_left' (by simp)
  have body : (payload ++ [check] ++ extra).take payload.length = payload := by
    rw [List.append_assoc]
    exact List.take_left
  rw [decodeFrame, len, if_neg (by simp),
    if_neg (show ¬ commandPayloadBound < payload.length from Nat.not_lt.mpr fits), whole, if_neg (not_not_intro sum), body]

theorem decodePayload_of_read {code : Byte} {payload : List Byte} {read : List Byte → Option Instr} {i : Instr}
    (index : commandIndex.lookup code = some read) (reads : read payload = some i) : decodePayload code payload = .command i := by
  rw [decodePayload, index]
  dsimp only
  rw [reads]

/-- R186, R187, 11.6.3: the payload of a well-formed command fits, and is read back. -/
theorem decodePayload_commandBody {i : Instr} {code : Byte} {payload : List Byte} (formed : i.wellFormed = true)
    (body : commandBody i = some (code, payload)) : payload.length ≤ 40 ∧ decodePayload code payload = .command i := by
  cases i with
  | planLoad bands =>
    refine ⟨Laws.PayloadFits.planLoad bands formed _ body, ?_⟩
    cases body
    exact decodePayload_of_read rfl (congrArg (Option.map Instr.planLoad) (bandsOf_split bands))
  | bankRatings r =>
    refine ⟨Laws.PayloadFits.bankRatings r formed _ body, ?_⟩
    cases body
    exact decodePayload_of_read rfl (readRatings_split r)
  | provision n k x c l con =>
    cases body
    exact ⟨Nat.le_of_ble_eq_true rfl, decodePayload_of_read rfl (readProvision_split n k c con x l)⟩
  | edit n l c =>
    cases body
    exact ⟨Nat.le_of_ble_eq_true rfl, decodePayload_of_read rfl (readEdit_split n c l)⟩
  | protSet f t u i =>
    cases body
    exact ⟨Nat.le_of_ble_eq_true rfl, decodePayload_of_read rfl (readProtSet_split f t u i)⟩
  | gainSet h k | gateTrimSet h k =>
    cases body
    exact ⟨Nat.le_of_ble_eq_true rfl, decodePayload_of_read rfl (readTwoHalves_split _ h k)⟩
  | sawSet h b =>
    cases body
    exact ⟨Nat.le_of_ble_eq_true rfl, decodePayload_of_read rfl (readHalfByte_split _ h b)⟩
  | strayDrop x =>
    cases body
    exact ⟨Nat.le_of_ble_eq_true rfl, decodePayload_of_read rfl (readSerial_split _ x)⟩
  | gateSet h | gateCalibrate h | reserveSet h | sawRequest h | attnClear h =>
    cases body
    exact ⟨Nat.le_of_ble_eq_true rfl, decodePayload_of_read rfl (readHalf_split _ h)⟩
  | risingCrossing | silenceTimerExpiry | bankFailedOpen | bankFailedStuck | checkWindowsExhausted | gatePulse
  | endSwitchActivation | pauseTimerExpiry | jamTimerExpiry | trimDecision | holdTimerExpiry | recordLinkSilent
  | silenceTimeLimit | recloseTimerExpiry | liveTimeLimit | applyComplete | restoreTick | transmissionEnd
  | replyWindowTimeout | replyEnd | replyLengthLimit | turnEnd | lineStopCompletion | turnChoice | assignAbandoned
  | automaticEnrollment | rejoinIntervalExpiry | sawEngChange | debounceTimerExpiry | waitingTimerExpiry
  | preparingTimerExpiry | idleTimerExpiry | stuckTimerExpiry | shedStep | shedIntervalExpiry | settledTimerExpiry
  | transactionStart | commandFrameError | notReadyRefusal | responseReady | powerOnReset | pinReset | replyStartBit
  | resetEnd => cases body
  | _ =>
    cases body
    exact ⟨Nat.le_of_ble_eq_true rfl, rfl⟩

/-- Settles O59. -/
theorem decodeOfEncodeIsTheCommand : Obligations.DecodeOfEncodeIsTheCommand := by
  intro i frame extra formed encoded
  obtain ⟨⟨code, payload⟩, body, rfl⟩ := Option.map_eq_some_iff.mp encoded
  obtain ⟨fits, decoded⟩ := decodePayload_commandBody formed body
  rw [decodeFrame_buildFrame code payload extra fits, decoded]

end Sys2Proof.Machine

/-! ## Proofs: the bits of a frame and the lengths of payloads (07 7.2, 11 11.2, 11.6) -/

namespace Sys2Proof.Machine

/-! ### Bits (R119, R180) -/

/-- R180: bytes shifted in most significant bit first are those bytes. -/
theorem shiftedIn_bytes (bytes : List Byte) {spare : List Bool} (short : spare.length < 8) :
    shiftedIn (bytes.flatMap msbFirst ++ spare) = bytes := by
  induction bytes with
  | nil => exact shiftedIn_of_short short
  | cons b bytes ih => rw [List.flatMap_cons, List.append_assoc, shiftedIn_msbFirst, ih]

/-- R180: eight cycles of SCK give one byte. -/
theorem misoBit_of_byte (t : Transaction) (n : Nat) :
    (List.range 8).map (fun k => t.misoBit (8 * n + k)) = msbFirst (t.miso n) := by
  refine List.map_congr_left fun k small => ?_
  have small := List.mem_range.mp small
  rw [Transaction.misoBit, show (8 * n + k) / 8 = n by omega, show (8 * n + k) % 8 = k by omega]

theorem misoBits (t : Transaction) (n : Nat) :
    (List.range (8 * n)).map t.misoBit = ((List.range n).map t.miso).flatMap msbFirst := by
  induction n with
  | zero => rfl
  | succ n ih =>
    rw [Nat.mul_succ, List.range_add, List.map_append, ih, List.range_succ (n := n), List.map_append, List.flatMap_append, List.map_map]
    congr 1
    exact (misoBit_of_byte t n).trans (List.append_nil _).symm

/-- R119: the ten bits of a character. -/
theorem characterBits_read (b : Byte) : startSeen ((characterBits b).extractLsb' 0 9) = true ∧
    characterOf ((characterBits b).extractLsb' 0 9) = b ∧ (characterBits b).getLsbD 9 = true := by
  revert b
  decide

/-! ### Lengths (R186, 11.6.4) -/

theorem flatMap_length {α : Type} {f : α → List Byte} {k : Nat} (width : ∀ a, (f a).length = k) (l : List α) :
    (l.flatMap f).length = l.length * k := by
  induction l with
  | nil => exact (Nat.zero_mul k).symm
  | cons a l ih => rw [List.flatMap_cons, List.length_append, width, ih, List.length_cons, Nat.succ_mul, Nat.add_comm]

theorem bits_length (m : Message) : m.bits.length = 10 * m.frame.length := by
  unfold Message.bits
  generalize m.frame = l
  induction l with
  | nil => rfl
  | cons b l ih =>
    rw [List.flatMap_cons, List.length_append, ih, List.length_map, List.length_range, List.length_cons]
    omega

theorem frame_length (r : Response) : r.frame.length = r.payload.length + 4 := by
  simp [Response.frame]

@[simp] theorem halfBytes_length (h : Half) : (halfBytes h).length = 2 := rfl

@[simp] theorem wordBytes_length (w : BitVec 32) : (wordBytes w).length = 4 := rfl

@[simp] theorem plain_length (n : Nat) : (plain n).length = 2 := rfl

@[simp] theorem signed_length (x : Int) : (signed x).length = 4 := rfl

@[simp] theorem frequency_length (f : Int) : (frequency f).length = 2 := rfl

@[simp] theorem plainOr_length (o : Option Nat) : (plainOr o).length = 2 := by cases o <;> rfl

@[simp] theorem signedOr_length (o : Option Int) : (signedOr o).length = 4 := by cases o <;> rfl

@[simp] theorem remaining_length (t : Timer) : (remaining t).length = 2 := plainOr_length _

@[simp] theorem allOnes_length (n : Nat) : (allOnes n).length = n := List.length_replicate

@[simp] theorem serialOr_length (o : Option Serial) : (serialOr o).length = 4 := by cases o <;> rfl

@[simp] theorem topBytes_length (l : List Prefix) : (topBytes l).length = 5 := by cases l <;> rfl

@[simp] theorem counts_length (c : EnrolCounts) : c.bytes.length = 4 := rfl

@[simp] theorem applyBytes_length (a : Option Apply) : (applyBytes a).length = 6 := by cases a <;> rfl

@[simp] theorem lastStepBytes_length (o : Option ShedOutcome) : (lastStepBytes o).length = 5 := by
  rcases o with _ | ⟨_ | _ | _⟩ <;> rfl

theorem errand_length (r : Errand) : r.bytes.length = 8 := by cases r <;> rfl

/-- R186: a collection fills its places, whatever it holds. -/
theorem places_length {α : Type} (capacity : Nat) {width : Nat} {f : α → List Byte} (each : ∀ a, (f a).length = width) (l : List α) :
    (places capacity width f l).length = capacity * width := by
  rw [places, List.length_append, flatMap_length each, List.length_take, allOnes_length, ← Nat.add_mul]
  congr 1
  omega

theorem accountPayload_length (s : State) : s.accountPayload.length = 27 := by
  unfold State.accountPayload
  cases last : s.account.last <;> simp [last]

theorem statusPayload_length (s : State) : s.statusPayload.length = 6 := by
  unfold State.statusPayload
  cases s.fmu.lastF <;> simp

/-- 11.6.4: a record's bytes. -/
theorem settingsBytes_length (st : Station) : st.settingsBytes.length = 11 := by
  unfold Station.settingsBytes
  cases st.service with
  | none => simp
  | some sv => simp

theorem conditionBytes_length (st : Station) : st.conditionBytes.length = 7 := by
  unfold Station.conditionBytes
  cases st.conditionOf with
  | none => simp
  | some sv => simp

theorem linkBytes_length (st : Station) : st.linkBytes.length = 3 := by
  unfold Station.linkBytes
  cases st.onLine <;> simp

theorem recordPayload_length (n : Slot) (s : State) :
    (s.recordPayload n).length = if s.station n = none then 2 else 29 := by
  unfold State.recordPayload
  cases s.station n with
  | none => rfl
  | some st => simp [settingsBytes_length, conditionBytes_length, linkBytes_length]

theorem governorPayload_length (s : State) : s.governorPayload.length = 69 := by
  have banks : (s.gov.banks.toList.flatMap Bank.bytes).length = 8 * 5 := by
    rw [flatMap_length (k := 5) fun _ => rfl, Vector.length_toList]
  unfold State.governorPayload
  cases check : s.gov.check <;> simp [banks, check]

theorem planPayload_length (s : State) (sound : s.water.sound) : s.planPayload.length ≤ 60 := by
  have bands : ∀ p, s.water.plan = some p → p.bands.length ≤ 8 := fun p here =>
    ((planInRange_iff p.bands).mp ((WaterPlan.sound_iff p).mp (by
      have := sound.1
      rw [here] at this
      exact this)).1).2.1
  unfold State.planPayload
  cases here : s.water.plan with
  | none => simp [here]
  | some p =>
    have few := bands p here
    have width : (p.bands.flatMap Band.bytes).length = p.bands.length * 6 := flatMap_length (k := 6) (fun _ => rfl) _
    simp [here, width, -List.length_flatMap]
    omega

theorem linePayload_length (s : State) : s.linePayload.length = 74 := by
  have sheds := places_length 3 (width := 3) (f := ShedEntry.bytes) (fun _ => rfl) s.engine.sheds
  have errands := places_length 4 (width := 8) errand_length s.engine.errands
  unfold State.linePayload
  cases last : s.engine.lastReport <;> simp [sheds, errands, last]

theorem straysPayload_length (s : State) : s.straysPayload.length = 34 := by
  have strays := places_length 8 (width := 4) (f := wordBytes) (fun _ => rfl) s.engine.strays
  simp [State.straysPayload, strays]

/-- 11.6.2: every payload fits its frame. -/
theorem payload_length (s : State) (sound : s.water.sound) (what : Reading) : (what.payload s).length ≤ 80 := by
  cases what with
  | governor => exact (governorPayload_length s).trans_le (by decide)
  | gate => simp [Reading.payload, State.gatePayload]
  | plan => exact (planPayload_length s sound).trans (by decide)
  | record n =>
    rw [Reading.payload, recordPayload_length]
    split <;> decide
  | account => exact (accountPayload_length s).trans_le (by decide)
  | line => exact (linePayload_length s).trans_le (by decide)
  | strays => exact (straysPayload_length s).trans_le (by decide)
  | saw => simp [Reading.payload, State.sawPayload]
  | protection => simp [Reading.payload, State.protectionPayload]
  | attention => exact (by decide : 2 ≤ 80)
  | ident => exact (by decide : 12 ≤ 80)
  | status => exact (statusPayload_length s).trans_le (by decide)

/-- Settles O48. -/
theorem framesKeepTheirChecksAndLengths : Obligations.FramesKeepTheirChecksAndLengths := by
  refine ⟨fun bytes spare short => ⟨shiftedIn_bytes bytes short, fun i good => ?_⟩, misoBits, characterBits_read, bits_length,
    crc_withCrc, fun m => ⟨crc_withCrc m.body, withCrc_length m.body⟩, fun r => ⟨byteSum_checked _, frame_length r⟩,
    fun s => ⟨accountPayload_length s, statusPayload_length s, rfl, fun n => ⟨fun vacant => ?_, fun held => ?_⟩,
      fun sound _ => payload_length s sound⟩⟩
  · rw [rowOfMosi, shiftedIn_bytes bytes short, good]
  · rw [recordPayload_length, if_pos vacant]
  · rw [recordPayload_length, if_neg held]

end Sys2Proof.Machine
